-- ==== Sys2Proof/Word.lean ====
section
/-! DEFINITION. Word types, the limit of song time, and four-fold records.

Bit vectors hold what travels in frames and what the converter or the straps deliver as bits. Everything the
manual counts (ticks, cells, scores) is a `Nat`, with its range an invariant (Safety.lean). -/

namespace Sys2Proof

/-- One payload byte, a header, or a CRC. -/
abbrev Byte := BitVec 8

/-- The greatest tick of song time (R19). -/
def maxTick : Nat := 16777215

/-- `x` set to the nearest end of `lo..hi` (00_scope.md 0.5, "clamped"). -/
def clampNat (lo hi x : Nat) : Nat := max lo (min hi x)

/-- `x` set to the nearest end of `lo..hi`, for signed values. -/
def clampInt (lo hi x : Int) : Int := max lo (min hi x)

/-- A sum of a tick and an offset, clamped to 0..16,777,215 (00_scope.md 0.5; R51). -/
def clampTick (x : Int) : Nat := min maxTick x.toNat

/-- Four like things in order: the zones 0..3 of a panel, or the lamp channels red, green, blue, white. -/
structure Quad (α : Type) where
  q0 : α
  q1 : α
  q2 : α
  q3 : α
deriving DecidableEq, Repr

/-- The member numbered `i`. -/
def Quad.get {α : Type} (q : Quad α) (i : Fin 4) : α :=
  match i with
  | 0 => q.q0
  | 1 => q.q1
  | 2 => q.q2
  | 3 => q.q3

/-- `f` applied to the member numbered `i`, the other three as they are. -/
def Quad.modify {α : Type} (q : Quad α) (i : Fin 4) (f : α → α) : Quad α :=
  match i with
  | 0 => { q with q0 := f q.q0 }
  | 1 => { q with q1 := f q.q1 }
  | 2 => { q with q2 := f q.q2 }
  | 3 => { q with q3 := f q.q3 }

/-- `f` applied to every member. -/
def Quad.map {α β : Type} (f : α → β) (q : Quad α) : Quad β :=
  ⟨f q.q0, f q.q1, f q.q2, f q.q3⟩

/-- `f` applied to the members of two records in step. -/
def Quad.zip {α β γ : Type} (f : α → β → γ) (p : Quad α) (q : Quad β) : Quad γ :=
  ⟨f p.q0 q.q0, f p.q1 q.q1, f p.q2 q.q2, f p.q3 q.q3⟩

/-- Whether every member passes `p`. -/
def Quad.all {α : Type} (p : α → Bool) (q : Quad α) : Bool :=
  p q.q0 && p q.q1 && p q.q2 && p q.q3

/-- The same value four times. -/
def Quad.fill {α : Type} (x : α) : Quad α := ⟨x, x, x, x⟩

end Sys2Proof
end

