-- ==== Sys2Proof/Syntax.lean ====
section
/-! DEFINITION. The commands of the station, one constructor per row of spec/opcode_table.json, with their operands.

The table gives no operands; they are read off the rules (INVENTORY.md, Instructions). A received frame is given by
its fields at their widths on the wire (R150 to R155, R162, R164, R165, R167), so every field value is one a frame
can carry, and by the point of the frame the command reaches. -/

namespace Sys2Proof

/-- The result of a head or a tap, best first (00_scope.md 0.4, 0.5). -/
inductive Grade
  | exact | tight | near | wide | miss
deriving DecidableEq, Repr

/-- The result of a tail (00_scope.md 0.4). -/
inductive HoldResult
  | ok | ng
deriving DecidableEq, Repr

/-- A grade or a hold result, as a JUDGE frame or a flash signal carries it (R155, R172). -/
inductive JudgeResult
  | grade (g : Grade)
  | hold (h : HoldResult)
deriving DecidableEq, Repr

/-- What the strap pins PAD and PNL3..PNL0 read (R110). -/
structure Straps where
  pad   : Bool
  panel : BitVec 4
deriving DecidableEq, Repr

/-- What a lamp channel drew in the PWM period that ends: current at all, and over-current (R175, R176). -/
structure ChannelSense where
  current : Bool
  overCurrent : Bool
deriving DecidableEq, Repr

/-- The kinds of JUDGE frame that report a head result (R153). -/
inductive HeadKind
  | tap | head
deriving DecidableEq, Repr

/-- The layer a LAMP frame writes (R155, R162). -/
inductive LampLayer
  | base | press
deriving DecidableEq, Repr

/-- A MARK (R156): the sender's floor address and its tick `s`. -/
structure MarkFrame where
  sender : BitVec 5
  tick   : BitVec 24
deriving DecidableEq, Repr

/-- A START payload (R152), each field as carried. -/
structure StartFrame where
  startTime : BitVec 24
  endTime   : BitVec 24
  noteValue : BitVec 16
  e         : Byte
  t         : Byte
  n         : Byte
  w         : Byte
  grace     : Byte
  gauge     : Byte
  flags     : Byte
deriving DecidableEq, Repr

/-- A NOTE payload (R154): byte 4 as kind code and partner count, and the bytes after it. -/
structure NoteFrame where
  target : Byte
  due    : BitVec 24
  kind   : BitVec 4
  count  : BitVec 4
  body   : List Byte
deriving DecidableEq, Repr

/-- What a TAP or HEAD JUDGE frame says of the sender's own head (R153, R159). -/
structure HeadReport where
  sender : BitVec 5
  kind   : HeadKind
  due    : BitVec 24
  grade  : Grade
  lapse  : Bool
  offset : BitVec 16
deriving DecidableEq, Repr

/-- The tallies a closing JUDGE frame carries (R153). -/
structure Carried where
  score : BitVec 32
  combo : BitVec 16
  gauge : BitVec 16
deriving DecidableEq, Repr

/-- A JUDGE frame that closes a head or a chord: a TAP or HEAD closing frame, or a FORCED frame (R83, R159). -/
inductive ClosureFrame
  | head (r : HeadReport) (c : Carried)
  | forced (sender : BitVec 5) (due : BitVec 24) (c : Carried)
deriving DecidableEq, Repr

/-- The sender of a closing frame. -/
def ClosureFrame.sender : ClosureFrame → BitVec 5
  | .head r _ => r.sender
  | .forced a _ _ => a

/-- The due time or key a closing frame names. -/
def ClosureFrame.due : ClosureFrame → BitVec 24
  | .head r _ => r.due
  | .forced _ d _ => d

/-- The grade a closing frame carries: MISS for a FORCED one (R159). -/
def ClosureFrame.grade : ClosureFrame → Grade
  | .head r _ => r.grade
  | .forced _ _ _ => .miss

/-- The tallies a closing frame carries. -/
def ClosureFrame.carried : ClosureFrame → Carried
  | .head _ c => c
  | .forced _ _ c => c

/-- A TAIL JUDGE frame (R159). -/
structure TailFrame where
  sender : BitVec 5
  due    : BitVec 24
  result : HoldResult
  carried : Carried
deriving DecidableEq, Repr

/-- A LAMP payload but for its clear-latch flag (R162): the target set with address `a` at bit `a`. -/
structure LampFrame where
  targets : BitVec 32
  layer   : LampLayer
  colour  : Quad (BitVec 12)
deriving DecidableEq, Repr

/-- A SETUP WRITE payload (R164). -/
structure WriteFrame where
  target : Byte
  field  : Byte
  value  : BitVec 16
deriving DecidableEq, Repr

/-- A QUERY payload (R165). -/
structure QueryFrame where
  target : Byte
  page   : Byte
deriving DecidableEq, Repr

/-- A STATUS frame (R167): its sender, its page, and the bytes after the page byte. -/
structure StatusFrame where
  sender : BitVec 5
  page   : Fin 4
  fields : List Byte
deriving DecidableEq, Repr

/-- The fields of a frame, by class and kind. Console classes carry header address 31 (R148). -/
inductive Frame
  | mark (f : MarkFrame)
  | start (f : StartFrame)
  | stop
  | note (f : NoteFrame)
  | member (r : HeadReport)
  | orphan (r : HeadReport)
  | closure (c : ClosureFrame)
  | tail (f : TailFrame)
  | lamp (f : LampFrame) (clearLatch : Bool)
  | write (f : WriteFrame)
  | store (target : Byte)
  | restart (target : Byte)
  | query (f : QueryFrame)
  | status (f : StatusFrame)
deriving DecidableEq, Repr

/-- A frame as a receiver sampled it (R132): header, length, payload and CRC. -/
structure WireFrame where
  header  : Byte
  length  : BitVec 4
  payload : List Byte
  crc     : Byte
deriving DecidableEq, Repr

/-- The point of a followed frame that a command reaches: the start of its acknowledge cell, where decisions are taken
(R139); its end-of-frame, where their effects are (R142); or the whole frame up to its end-of-frame with no event of
the station inside the acknowledge cell (notes/assumptions/7.md). -/
inductive FramePoint
  | whole | ackCell | endOfFrame
deriving DecidableEq, Repr

/-- How the station's own frame ended: whether it sampled its acknowledge cell low (R140), and whether after the
header it sampled a 0 in a cell it sent as 1 (R146). -/
structure OwnEnd where
  acked    : Bool
  mismatch : Bool
deriving DecidableEq, Repr

/-- The instant of a start edge (R133, R134, R135): how many cells the line has been high, whether it is a tick boundary
of the station's own clock, whether the line input still reads high (low: another transmitter's start edge has been
seen), and the headers of the other transmitters whose start edge fell within the sensing delay. -/
structure StartInstant where
  quiet     : Nat
  boundary  : Bool
  inputHigh : Bool
  rivals    : List Byte
deriving DecidableEq, Repr

/-- The commands, in the order of spec/opcode_table.json. -/
inductive Instr
  | reset (straps : Straps)
  | settingsLoad
  | sample (raws : Quad (BitVec 12))
  | zoneFault (zone : Fin 4)
  | zoneRecovery (zone : Fin 4)
  | baselineTracking
  | press
  | release
  | startupEnd
  | tickAdvance
  | lapse (due : Nat)
  | holdEnd (due : Nat)
  | graceExpiry (due : Nat)
  | forcedClosePoint (key : Nat)
  | markPoint
  | saturation
  | silenceTimeout
  | flashStep
  | faultPatternTimer
  | pwmPeriod (sensed : Quad ChannelSense)
  | openFlag (channel : Fin 4)
  | storeComplete
  | idleGap
  | frameStart (instant : StartInstant)
  | payloadLatch
  | markSent (ending : OwnEnd)
  | judgeSent (ending : OwnEnd)
  | statusSent (ending : OwnEnd)
  | mark (f : MarkFrame) (p : FramePoint)
  | start (f : StartFrame) (p : FramePoint)
  | stop (p : FramePoint)
  | note (f : NoteFrame) (p : FramePoint)
  | memberReport (r : HeadReport) (p : FramePoint)
  | orphan (r : HeadReport) (p : FramePoint)
  | heardClosure (c : ClosureFrame) (p : FramePoint)
  | tailFrame (f : TailFrame) (p : FramePoint)
  | lamp (f : LampFrame) (p : FramePoint)
  | clearLatch (f : LampFrame) (p : FramePoint)
  | write (f : WriteFrame) (p : FramePoint)
  | store (target : Byte) (p : FramePoint)
  | restart (target : Byte) (straps : Straps) (p : FramePoint)
  | query (f : QueryFrame) (p : FramePoint)
  | statusReceived (f : StatusFrame) (p : FramePoint)
  | runt
  | longLow
  | frameTimeout
  | lineBreak
  | frameDiscarded (w : WireFrame)
  | lineBreakFallingEdge
  | powerLoss
deriving DecidableEq, Repr

/-- The frame a receiving command carries, if it carries one. -/
def Instr.frame : Instr → Option Frame
  | .mark f _ => some (.mark f)
  | .start f _ => some (.start f)
  | .stop _ => some .stop
  | .note f _ => some (.note f)
  | .memberReport r _ => some (.member r)
  | .orphan r _ => some (.orphan r)
  | .heardClosure c _ => some (.closure c)
  | .tailFrame f _ => some (.tail f)
  | .lamp f _ => some (.lamp f false)
  | .clearLatch f _ => some (.lamp f true)
  | .write f _ => some (.write f)
  | .store t _ => some (.store t)
  | .restart t _ _ => some (.restart t)
  | .query f _ => some (.query f)
  | .statusReceived f _ => some (.status f)
  | .reset _ => none
  | .settingsLoad => none
  | .sample _ => none
  | .zoneFault _ => none
  | .zoneRecovery _ => none
  | .baselineTracking => none
  | .press => none
  | .release => none
  | .startupEnd => none
  | .tickAdvance => none
  | .lapse _ => none
  | .holdEnd _ => none
  | .graceExpiry _ => none
  | .forcedClosePoint _ => none
  | .markPoint => none
  | .saturation => none
  | .silenceTimeout => none
  | .flashStep => none
  | .faultPatternTimer => none
  | .pwmPeriod _ => none
  | .openFlag _ => none
  | .storeComplete => none
  | .idleGap => none
  | .frameStart _ => none
  | .payloadLatch => none
  | .markSent _ => none
  | .judgeSent _ => none
  | .statusSent _ => none
  | .runt => none
  | .longLow => none
  | .frameTimeout => none
  | .lineBreak => none
  | .frameDiscarded _ => none
  | .lineBreakFallingEdge => none
  | .powerLoss => none

/-- A receiving command at another point of its frame; any other command as it is. -/
def Instr.atPoint (c : Instr) (p : FramePoint) : Instr :=
  match c with
  | .mark f _ => .mark f p
  | .start f _ => .start f p
  | .stop _ => .stop p
  | .note f _ => .note f p
  | .memberReport r _ => .memberReport r p
  | .orphan r _ => .orphan r p
  | .heardClosure k _ => .heardClosure k p
  | .tailFrame f _ => .tailFrame f p
  | .lamp f _ => .lamp f p
  | .clearLatch f _ => .clearLatch f p
  | .write f _ => .write f p
  | .store t _ => .store t p
  | .restart t q _ => .restart t q p
  | .query f _ => .query f p
  | .statusReceived f _ => .statusReceived f p
  | .reset x => .reset x
  | .settingsLoad => .settingsLoad
  | .sample x => .sample x
  | .zoneFault x => .zoneFault x
  | .zoneRecovery x => .zoneRecovery x
  | .baselineTracking => .baselineTracking
  | .press => .press
  | .release => .release
  | .startupEnd => .startupEnd
  | .tickAdvance => .tickAdvance
  | .lapse x => .lapse x
  | .holdEnd x => .holdEnd x
  | .graceExpiry x => .graceExpiry x
  | .forcedClosePoint x => .forcedClosePoint x
  | .markPoint => .markPoint
  | .saturation => .saturation
  | .silenceTimeout => .silenceTimeout
  | .flashStep => .flashStep
  | .faultPatternTimer => .faultPatternTimer
  | .pwmPeriod x => .pwmPeriod x
  | .openFlag x => .openFlag x
  | .storeComplete => .storeComplete
  | .idleGap => .idleGap
  | .frameStart x => .frameStart x
  | .payloadLatch => .payloadLatch
  | .markSent x => .markSent x
  | .judgeSent x => .judgeSent x
  | .statusSent x => .statusSent x
  | .runt => .runt
  | .longLow => .longLow
  | .frameTimeout => .frameTimeout
  | .lineBreak => .lineBreak
  | .frameDiscarded x => .frameDiscarded x
  | .lineBreakFallingEdge => .lineBreakFallingEdge
  | .powerLoss => .powerLoss

end Sys2Proof
end

