-- ==== Sys2Proof/Machine/Wire.lean ====
section
/-! DEFINITION. Frames on the wire: codes, layouts, the check, and the tests a receiver makes (R132, R138, R139,
R148 to R168). A `Frame` is the fields; a `WireFrame` is the bytes; `Frame.wire` and `readFrame` go between them. -/

namespace Sys2Proof

/-! ### Addresses, codes -/

/-- A valid station address: 0..8 or 16..24 (00_scope.md 0.4, R148). -/
def validStation (a : Nat) : Bool := a ≤ 8 || (16 ≤ a && a ≤ 24)

/-- The console's floor address (R148). -/
def consoleAddress : BitVec 5 := 31

/-- The code of a grade (R155). -/
def gradeCode : Grade → BitVec 3
  | .exact => 0
  | .tight => 1
  | .near => 2
  | .wide => 3
  | .miss => 4

/-- The grade a code names, if it names one (R155). -/
def gradeOfCode (c : BitVec 3) : Option Grade :=
  match c.toNat with
  | 0 => some .exact
  | 1 => some .tight
  | 2 => some .near
  | 3 => some .wide
  | 4 => some .miss
  | _ => none

/-- The code of a hold result (R155). -/
def holdCode : HoldResult → BitVec 3
  | .ok => 5
  | .ng => 6

/-- The hold result a code names, if it names one (R155). -/
def holdOfCode (c : BitVec 3) : Option HoldResult :=
  match c.toNat with
  | 5 => some .ok
  | 6 => some .ng
  | _ => none

/-- The code of a HEAD or TAP frame's kind (R155). -/
def headKindCode : HeadKind → BitVec 2
  | .tap => 0
  | .head => 1

/-- The layer code of a LAMP frame (R155). -/
def layerCode : LampLayer → BitVec 7
  | .base => 0
  | .press => 1

/-! ### Bytes and bits, most significant first (R132, R150) -/

/-- The bits of a number, most significant first. -/
def bitsOf {n : Nat} (x : BitVec n) : List Bool := (List.range n).map x.getMsbD

/-- Two bytes of a 16-bit field. -/
def be16 (x : BitVec 16) : List Byte := [x.extractLsb' 8 8, x.extractLsb' 0 8]

/-- Three bytes of a 24-bit field. -/
def be24 (x : BitVec 24) : List Byte := [x.extractLsb' 16 8, x.extractLsb' 8 8, x.extractLsb' 0 8]

/-- Four bytes of a 32-bit field. -/
def be32 (x : BitVec 32) : List Byte :=
  [x.extractLsb' 24 8, x.extractLsb' 16 8, x.extractLsb' 8 8, x.extractLsb' 0 8]

/-- Six bytes of the packed colour field (R162): red, green, blue, white end to end. -/
def colourBytes (c : Quad (BitVec 12)) : List Byte :=
  let x : BitVec 48 := c.q0 ++ c.q1 ++ c.q2 ++ c.q3
  [x.extractLsb' 40 8, x.extractLsb' 32 8, x.extractLsb' 24 8, x.extractLsb' 16 8, x.extractLsb' 8 8,
    x.extractLsb' 0 8]

/-- The four values packed in six colour bytes (R162). -/
def colourOfBytes (a b c d e f : Byte) : Quad (BitVec 12) :=
  let x : BitVec 48 := a ++ b ++ c ++ d ++ e ++ f
  ⟨x.extractLsb' 36 12, x.extractLsb' 24 12, x.extractLsb' 12 12, x.extractLsb' 0 12⟩

/-! ### The check (R138) -/

/-- One bit through the check register: shift toward the most significant end, and combine with 00011101 when the bit
that leaves differs from the bit that comes. -/
def crcStep (r : Byte) (b : Bool) : Byte :=
  if (r.msb != b) then (r <<< 1) ^^^ 0x1D#8 else r <<< 1

/-- The check over a run of bits, from a register of all ones. -/
def crc8 (bits : List Bool) : Byte := bits.foldl crcStep 0xFF#8

/-- The bits the check of a frame runs over: header, length, payload. -/
def checkedBits (header : Byte) (length : BitVec 4) (payload : List Byte) : List Bool :=
  bitsOf header ++ bitsOf length ++ payload.flatMap bitsOf

/-- The cells of a frame of `n` payload bytes, from its start edge to its end-of-frame (R132). -/
def frameCells (n : Nat) : Nat := 25 + 8 * n

/-! ### From fields to bytes -/

/-- The class of a frame (R148). -/
def Frame.cls : Frame → BitVec 3
  | .mark _ => 0
  | .start _ => 1
  | .stop => 1
  | .member _ => 2
  | .orphan _ => 2
  | .closure _ => 2
  | .tail _ => 2
  | .note _ => 3
  | .lamp _ _ => 4
  | .write _ => 5
  | .store _ => 5
  | .restart _ => 5
  | .query _ => 6
  | .status _ => 7

/-- The sender of a frame of a class that stations send (R148). -/
def Frame.sender : Frame → Option (BitVec 5)
  | .mark f => some f.sender
  | .member r => some r.sender
  | .orphan r => some r.sender
  | .closure c => some c.sender
  | .tail f => some f.sender
  | .status f => some f.sender
  | .start _ => none
  | .stop => none
  | .note _ => none
  | .lamp _ _ => none
  | .write _ => none
  | .store _ => none
  | .restart _ => none
  | .query _ => none

/-- The header address (R148). -/
def Frame.address (f : Frame) : BitVec 5 := f.sender.getD consoleAddress

/-- The header of a class and an address (R151). -/
def headerOf (cls : BitVec 3) (address : BitVec 5) : Byte := cls ++ address

/-- The flags byte of a JUDGE payload (R153). -/
def judgeFlags (kind : BitVec 2) (result : BitVec 3) (closing lapse orphan : Bool) : Byte :=
  kind ++ result ++ BitVec.ofBool closing ++ BitVec.ofBool lapse ++ BitVec.ofBool orphan

/-- The tallies in a closing payload (R153). -/
def Carried.bytes (c : Carried) : List Byte := be32 c.score ++ be16 c.combo ++ be16 c.gauge

/-- Due, flags and offset of a TAP or HEAD payload (R153). -/
def HeadReport.bytes (r : HeadReport) (closing orphan : Bool) : List Byte :=
  be24 r.due ++ [judgeFlags (headKindCode r.kind) (gradeCode r.grade) closing r.lapse orphan] ++ be16 r.offset

/-- The payload of a frame (R152 to R154, R156, R162, R164, R165, R167). -/
def Frame.payload : Frame → List Byte
  | .mark f => be24 f.tick
  | .start f =>
    be24 f.startTime ++ be24 f.endTime ++ be16 f.noteValue ++ [f.e, f.t, f.n, f.w, f.grace, f.gauge, f.flags]
  | .stop => []
  | .note f => f.target :: be24 f.due ++ [(f.kind ++ f.count : BitVec 8)] ++ f.body
  | .member r => r.bytes false false
  | .orphan r => r.bytes false true
  | .closure (.head r c) => r.bytes true false ++ c.bytes
  | .closure (.forced _ due c) => be24 due ++ [judgeFlags 3 (gradeCode .miss) true false false] ++ c.bytes
  | .tail f => be24 f.due ++ [judgeFlags 2 (holdCode f.result) true false false] ++ f.carried.bytes
  | .lamp f clear => be32 f.targets ++ [(BitVec.ofBool clear ++ layerCode f.layer : BitVec 8)] ++ colourBytes f.colour
  | .write f => [f.target, 0#8, f.field] ++ be16 f.value
  | .store t => [t, 1#8]
  | .restart t => [t, 2#8]
  | .query f => [f.target, f.page]
  | .status f => BitVec.ofNat 8 f.page.val :: f.fields

/-- A frame of a header and a payload, with its length and its check (R132, R138). -/
def wireOf (header : Byte) (payload : List Byte) : WireFrame :=
  let length := BitVec.ofNat 4 payload.length
  { header := header, length := length, payload := payload, crc := crc8 (checkedBits header length payload) }

/-- A frame on the wire. -/
def Frame.wire (f : Frame) : WireFrame := wireOf (headerOf f.cls f.address) f.payload

/-- The bits of a frame from its header to its last CRC bit, as a receiver samples them (R132). -/
def WireFrame.bits (w : WireFrame) : List Bool :=
  checkedBits w.header w.length w.payload ++ bitsOf w.crc

/-! ### Well-formed fields (R148, R149, R160, R164, R165) -/

/-- The carried tallies lie in their ranges (R160). -/
def Carried.wellFormed (c : Carried) : Bool := c.score.toNat ≤ 99999999 && c.gauge.toNat ≤ 1000

/-- The report of a head is one R160 lets pass, from a valid station address (R148). -/
def HeadReport.wellFormed (r : HeadReport) : Bool :=
  validStation r.sender.toNat && (-800 ≤ r.offset.toInt && r.offset.toInt ≤ 800) &&
    (!r.lapse || (r.grade == .miss && r.offset == 0))

/-- The bytes after byte 4 agree in number with the kind and the partner count, or the pair names no layout and the
payload is 5..10 bytes (R37, R149). -/
def NoteFrame.lengthOk (f : NoteFrame) : Bool :=
  if f.kind.toNat ≤ 1 && f.count.toNat ≤ 3 then f.body.length == f.count.toNat + 2 * f.kind.toNat
  else f.body.length ≤ 5

/-- The bytes after the page byte of each STATUS page (R149, R167). -/
def statusFieldBytes (page : Fin 4) : Nat :=
  match page with
  | 0 => 11
  | 1 => 14
  | 2 => 11
  | 3 => 10

/-- The frame passes tests 2 and 3 of R139: its length fits and its contents are well formed. -/
def Frame.wellFormed : Frame → Bool
  | .mark f => validStation f.sender.toNat
  | .start _ => true
  | .stop => true
  | .note f => f.lengthOk
  | .member r => r.wellFormed
  | .orphan r => r.wellFormed
  | .closure (.head r c) => r.wellFormed && c.wellFormed
  | .closure (.forced a _ c) => validStation a.toNat && c.wellFormed
  | .tail f => validStation f.sender.toNat && f.carried.wellFormed
  | .lamp _ _ => true
  | .write f => f.field.toNat ≤ 11
  | .store _ => true
  | .restart _ => true
  | .query f => f.page.toNat ≤ 3
  | .status f => validStation f.sender.toNat && f.fields.length == statusFieldBytes f.page

/-! ### From bytes to fields: the receiver's tests, in order (R139) -/

/-- Which test of R139 a frame fails. -/
inductive Discard
  /-- Test 1: the sampled CRC differs from the computed one. -/
  | crc
  /-- Test 2: the length disagrees with the class or the kind. -/
  | length
  /-- Test 3: the contents or the header address are not well formed. -/
  | contents
deriving DecidableEq, Repr

/-- A TAP or HEAD payload's first six bytes (R153), its grade code being one of a grade (R160). -/
def readHead (sender : BitVec 5) (kind : HeadKind) (due : BitVec 24) (flags o0 o1 : Byte) : Except Discard HeadReport :=
  match gradeOfCode (flags.extractLsb' 3 3) with
  | some g => .ok { sender := sender, kind := kind, due := due, grade := g, lapse := flags.getLsbD 1, offset := o0 ++ o1 }
  | none => .error .contents

/-- A head report as the frame its flags name (R153, R160): closing and orphan together are malformed. -/
def headFrame (r : HeadReport) (flags : Byte) (c : Option Carried) : Except Discard Frame :=
  match c with
  | some c => if flags.getLsbD 0 then .error .contents else .ok (.closure (.head r c))
  | none => if flags.getLsbD 0 then .ok (.orphan r) else .ok (.member r)

/-- The kind of a TAP or HEAD code. -/
def headKindOf (code : Nat) : HeadKind := if code = 0 then .tap else .head

/-- The fields of a JUDGE payload (R149, R153, R160), before the range checks of `Frame.wellFormed`. -/
def readJudge (sender : BitVec 5) (payload : List Byte) : Except Discard Frame :=
  match payload with
  | d0 :: d1 :: d2 :: flags :: rest =>
    let due : BitVec 24 := d0 ++ d1 ++ d2
    let kind := (flags.extractLsb' 6 2).toNat
    let closing := flags.getLsbD 2
    if kind ≤ 1 then
      match closing, rest with
      | false, [o0, o1] => do
        let r ← readHead sender (headKindOf kind) due flags o0 o1
        headFrame r flags none
      | true, [o0, o1, s0, s1, s2, s3, c0, c1, g0, g1] => do
        let r ← readHead sender (headKindOf kind) due flags o0 o1
        headFrame r flags (some { score := s0 ++ s1 ++ s2 ++ s3, combo := c0 ++ c1, gauge := g0 ++ g1 })
      | _, _ => .error .length
    else
      match rest with
      | [s0, s1, s2, s3, c0, c1, g0, g1] =>
        let c : Carried := { score := s0 ++ s1 ++ s2 ++ s3, combo := c0 ++ c1, gauge := g0 ++ g1 }
        if closing && !flags.getLsbD 1 && !flags.getLsbD 0 then
          if kind = 2 then
            match holdOfCode (flags.extractLsb' 3 3) with
            | some h => .ok (.tail { sender := sender, due := due, result := h, carried := c })
            | none => .error .contents
          else if gradeOfCode (flags.extractLsb' 3 3) = some .miss then .ok (.closure (.forced sender due c))
          else .error .contents
        else .error .contents
      | _ => .error .length
  | _ => .error .length

/-- The fields of a SETUP payload (R149, R164). -/
def readSetup (payload : List Byte) : Except Discard Frame :=
  match payload with
  | [t, op] =>
    if op = 1 then .ok (.store t) else if op = 2 then .ok (.restart t)
    else if op = 0 then .error .length else .error .contents
  | [t, op, fld, v0, v1] =>
    if op = 0 then .ok (.write { target := t, field := fld, value := v0 ++ v1 })
    else if op = 1 || op = 2 then .error .length else .error .contents
  | _ => .error .length

/-- The page a page byte names. -/
def pageOf (b : Byte) : Option (Fin 4) :=
  match b.toNat with
  | 0 => some 0
  | 1 => some 1
  | 2 => some 2
  | 3 => some 3
  | _ => none

/-- The fields of a STATUS payload (R149, R168). Only the page byte is checked against its codes: a code out of range behind
it is passed, as R168 says, though R150 has such a code fail test 3 (notes/assumptions/39.md, DESIGN CHOICE). -/
def readStatus (sender : BitVec 5) (payload : List Byte) : Except Discard Frame :=
  match payload with
  | p :: fields =>
    match pageOf p with
    | some page =>
      if fields.length = statusFieldBytes page then .ok (.status { sender := sender, page := page, fields := fields })
      else .error .length
    | none => if 10 ≤ fields.length ∧ fields.length ≤ 14 then .error .contents else .error .length
  | [] => .error .length

/-- The layer a layer byte names in its bits 6..0 (R162). -/
def layerOf (b : Byte) : Option LampLayer :=
  match (b.extractLsb' 0 7).toNat with
  | 0 => some .base
  | 1 => some .press
  | _ => none

/-- The fields of a payload by class (R149), before the range checks of `Frame.wellFormed`. -/
def readPayload (cls : Nat) (address : BitVec 5) (payload : List Byte) : Except Discard Frame :=
  match cls, payload with
  | 0, [a, b, c] => .ok (.mark { sender := address, tick := a ++ b ++ c })
  | 1, [] => .ok .stop
  | 1, [a0, a1, a2, b0, b1, b2, v0, v1, e, t, n, w, g, i, fl] =>
    .ok (.start { startTime := a0 ++ a1 ++ a2, endTime := b0 ++ b1 ++ b2, noteValue := v0 ++ v1, e := e, t := t, n := n,
                  w := w, grace := g, gauge := i, flags := fl })
  | 2, p => readJudge address p
  | 3, t :: d0 :: d1 :: d2 :: kc :: body =>
    let f : NoteFrame := { target := t, due := d0 ++ d1 ++ d2, kind := kc.extractLsb' 4 4, count := kc.extractLsb' 0 4,
                           body := body }
    if f.lengthOk then .ok (.note f) else .error .length
  | 4, [t0, t1, t2, t3, l, a, b, c, d, e, f] =>
    match layerOf l with
    | some layer =>
      .ok (.lamp { targets := t0 ++ t1 ++ t2 ++ t3, layer := layer, colour := colourOfBytes a b c d e f } l.msb)
    | none => .error .contents
  | 5, p => readSetup p
  | 6, [t, page] => .ok (.query { target := t, page := page })
  | 7, p => readStatus address p
  | _, _ => .error .length

/-- Whether a class is one the console sends (R148). -/
def consoleClass (cls : Nat) : Bool := cls == 1 || (3 ≤ cls && cls ≤ 6)

/-- The tests of R139 in their order: the check, the length, the contents with the header address (R148). -/
def readFrame (w : WireFrame) : Except Discard Frame :=
  let cls := (w.header.extractLsb' 5 3).toNat
  let address := w.header.extractLsb' 0 5
  if crc8 (checkedBits w.header w.length w.payload) ≠ w.crc then .error .crc
  else if w.payload.length ≠ w.length.toNat then .error .length
  else
    match readPayload cls address w.payload with
    | .error d => .error d
    | .ok f =>
      if f.wellFormed && (!consoleClass cls || address == consoleAddress) then .ok f else .error .contents

/-! ### Arbitration on the header (R136) -/

/-- The wire during one header cell: high only if every transmitter still driving sends 1 (R131). -/
def lineBit (i : Nat) (driving : List Byte) : Bool := driving.all fun h => h.getMsbD i

/-- The contest from header cell `i` on, for `cells` cells: whether `own` is still driving at its end, and the bits the
line read. A transmitter that sent 1 and sampled 0 stops driving. -/
def contest (own : Byte) : Nat → Nat → Bool → List Byte → Bool × List Bool
  | 0, _, up, _ => (up, [])
  | cells + 1, i, up, rivals =>
    let b := lineBit i (if up then own :: rivals else rivals)
    let up' := up && (!own.getMsbD i || b)
    let (won, bits) := contest own cells (i + 1) up' (rivals.filter fun h => !h.getMsbD i || b)
    (won, b :: bits)

/-- Arbitration over the eight header cells (R136): whether `own` won, and the header the line carried. -/
def arbitrate (own : Byte) (rivals : List Byte) : Bool × List Bool := contest own 8 0 true rivals

end Sys2Proof
end

