-- ==== Sys2Proof/WellFormed.lean ====
section
/-! DEFINITION. Which commands are well formed: those whose operands lie in the ranges the manual gives them. A received
frame must be one that R139 lets pass; a frame that does not is FRAME_DISCARDED's. -/

namespace Sys2Proof

/-- The operands of a command lie in their ranges. -/
def Instr.wellFormed : Instr → Bool
  | .reset _ => true
  | .settingsLoad => true
  | .sample _ => true
  | .zoneFault _ => true
  | .zoneRecovery _ => true
  | .baselineTracking => true
  | .press => true
  | .release => true
  | .startupEnd => true
  | .tickAdvance => true
  | .lapse due => due ≤ maxTick
  | .holdEnd due => due ≤ maxTick
  | .graceExpiry due => due ≤ maxTick
  | .forcedClosePoint key => key ≤ maxTick
  | .markPoint => true
  | .saturation => true
  | .silenceTimeout => true
  | .flashStep => true
  | .faultPatternTimer => true
  | .pwmPeriod _ => true
  | .openFlag _ => true
  | .storeComplete => true
  | .idleGap => true
  | .frameStart i => i.quiet ≤ 16
  | .payloadLatch => true
  | .markSent _ => true
  | .judgeSent _ => true
  | .statusSent _ => true
  | .mark f _ => Frame.wellFormed (.mark f)
  | .start f _ => Frame.wellFormed (.start f)
  | .stop _ => Frame.wellFormed .stop
  | .note f _ => Frame.wellFormed (.note f)
  | .memberReport r _ => Frame.wellFormed (.member r)
  | .orphan r _ => Frame.wellFormed (.orphan r)
  | .heardClosure c _ => Frame.wellFormed (.closure c)
  | .tailFrame f _ => Frame.wellFormed (.tail f)
  | .lamp f _ => Frame.wellFormed (.lamp f false)
  | .clearLatch f _ => Frame.wellFormed (.lamp f true)
  | .write f _ => Frame.wellFormed (.write f)
  | .store t _ => Frame.wellFormed (.store t)
  | .restart t _ _ => Frame.wellFormed (.restart t)
  | .query f _ => Frame.wellFormed (.query f)
  | .statusReceived f _ => Frame.wellFormed (.status f)
  | .runt => true
  | .longLow => true
  | .frameTimeout => true
  | .lineBreak => true
  | .frameDiscarded w => w.payload.length == w.length.toNat
  | .lineBreakFallingEdge => true
  | .powerLoss => true

end Sys2Proof
end

