-- ==== Sys2Proof/Decode.lean ====
section
/-! DEFINITION. The command a table word spells. No row of spec/opcode_table.json gives bits ("fields": [] and no match
or mask in every row), so no word spells a command. What the manual does lay out in bits are frames: Machine/Wire.lean. -/

namespace Sys2Proof

/-- The command spelled by a word of `nbits` bits: none, since the table gives no row any bits. -/
def decodeTableWord (_nbits _w : Nat) : Option Instr := none

end Sys2Proof
end

