-- ==== Sys2Proof/Config.lean ====
section
/-! DEFINITION. The values the manual leaves open, as constants without a body, and the part's fixed times in cells.

A free value is opaque: nothing can be proved of it, so a statement that holds, holds whatever the value is. -/

namespace Sys2Proof.Config

/-- Field `id` of the non-volatile copy left by the `n`-th abandoned STORE. R128 says only that the copy's CRC does
not hold; the contents are open (notes/assumptions/9.md, DESIGN CHOICE, safe). -/
opaque tornField (n id : Nat) : BitVec 16

/-- The CRC byte of the non-volatile copy left by the `n`-th abandoned STORE, before it is made not to hold
(notes/assumptions/9.md, DESIGN CHOICE, safe). -/
opaque tornCrc (n : Nat) : Byte

/-- Cells in a tick (00_scope.md 0.4; R20). -/
def cellsPerTick : Nat := 20

/-- Cells in a sample period of 500 us (R1). -/
def cellsPerSample : Nat := 40

/-- Cells in a PWM period of 1 ms (R169). -/
def cellsPerPwm : Nat := 80

/-- Cells in a flash step of 10 ms (R172). -/
def cellsPerFlashStep : Nat := 800

/-- Cells in a STORE of 20 ms (R128). -/
def cellsPerStore : Nat := 1600

/-- Cells in the silence timeout of 250 ms (R118), and in one half of a FAULT pattern's cycle (R171). -/
def cellsPer250ms : Nat := 20000

end Sys2Proof.Config
end

