-- ==== Sys2Proof/Machine/State.lean ====
section
/-! DEFINITION. The state of one station: every register, counter, list and flag the manual names, as plain data, with
the values after reset, and the reasons a step could stop (INVENTORY.md, State). -/

namespace Sys2Proof.Machine

/-! ### Station Control (R109) -/

/-- The station's mode of work (R109). -/
inductive StationState
  | startup | idle | playing | lost | failed | done | fault
deriving DecidableEq, Repr

/-- Why the station is in FAULT; `noFault` in every other state (R109). -/
inductive FaultCause
  | noFault | strap | duplicate
deriving DecidableEq, Repr

/-- Station Control's registers (R109). The silence timer is absent while stopped, else counts cells. -/
structure StationControl where
  state     : StationState
  cause     : FaultCause
  startTime : Nat
  endTime   : Nat
  silence   : Option Nat
deriving DecidableEq, Repr

/-! ### Settings Store (R125) -/

/-- The twelve settings (R125). -/
structure Settings where
  press       : Nat
  release     : Nat
  zoneSet     : Nat
  inputOffset : Int
  idleColour  : Quad Nat
  pressColour : Quad Nat
deriving DecidableEq, Repr

/-- The non-volatile copy: twelve 16-bit fields in the order of their ids, and the CRC kept with them (R125;
the layout under the CRC is notes/assumptions/10.md, DESIGN CHOICE). -/
structure NvCopy where
  fields : List (BitVec 16)
  crc    : Byte
deriving DecidableEq, Repr

/-- A STORE in progress: the settings as they stood when it began, and the cells elapsed (R128). -/
structure StoreJob where
  snapshot : Settings
  elapsed  : Nat
deriving DecidableEq, Repr

/-- The Settings Store (R125). It is busy while it has a job. -/
structure SettingsStore where
  working   : Settings
  nv        : NvCopy
  defaulted : Bool
  job       : Option StoreJob
deriving DecidableEq, Repr

/-! ### Sense Unit (R3, R7, R9, R11) -/

/-- Whether a zone counts toward the load (R3). -/
inductive ZoneCondition
  | healthy | faulty | off
deriving DecidableEq, Repr

/-- A zone record (R3). -/
structure ZoneRecord where
  raw         : Nat
  baseline    : Nat
  condition   : ZoneCondition
  railCount   : Nat
  insideCount : Nat
deriving DecidableEq, Repr

/-- The low count of a RELEASING detector (R11). -/
inductive LowCount
  | one | two
deriving DecidableEq, Repr

/-- The step detector, with the fields present in its state (R11). -/
inductive Detector
  | released
  | pressing (candidate : Nat)
  | pressed
  | releasing (candidate : Nat) (low : LowCount)
deriving DecidableEq, Repr

/-- The Sense Unit. The sample timer is absent until the settings load starts it (R1), then holds the cells since the
last sample; `samples` counts the samples of STARTUP up to 32 (R16). -/
structure SenseUnit where
  zones       : Quad ZoneRecord
  detector    : Detector
  load        : Nat
  drift       : Nat
  sampleTimer : Option Nat
  samples     : Nat
deriving DecidableEq, Repr

/-! ### Song Clock (R19) -/

/-- The Song Clock (R19). -/
structure SongClock where
  tick        : Nat
  phase       : Nat
  running     : Bool
  saturated   : Bool
  nextMark    : Option Nat
  markPending : Bool
  slip        : Bool
deriving DecidableEq, Repr

/-! ### Note Queue (R33, R44) -/

/-- TAP, or HOLD with its hold length (R33). -/
inductive NoteKind
  | tap
  | hold (length : Nat)
deriving DecidableEq, Repr

/-- The state of an entry; SLIPPING carries its slip-start (R33). -/
inductive EntryState
  | waiting
  | holding
  | slipping (slipStart : Nat)
  | judged
deriving DecidableEq, Repr

/-- The result of a head: a press at an offset, with its grade, or a lapse, whose grade is MISS (R33). -/
inductive HeadResult
  | struck (offset : Int) (grade : Grade)
  | lapse
deriving DecidableEq, Repr

/-- A note entry (R33). `headSent` is clear for a TAP and while the head of a HOLD is not judged, where the manual has
no flag (notes/assumptions/26.md). -/
structure NoteEntry where
  due         : Nat
  kind        : NoteKind
  partners    : List Nat
  state       : EntryState
  head        : Option HeadResult
  headSent    : Bool
  tail        : Option HoldResult
  chordClosed : Bool
deriving DecidableEq, Repr

/-- Why a NOTE was refused; `noRefusal` is NONE (R44). -/
inductive RefusalReason
  | noRefusal | full | stale | duplicate | overlap | malformed | wrongState
deriving DecidableEq, Repr

/-- The Note Queue (R35, R43, R44). -/
structure NoteQueue where
  entries          : List NoteEntry
  pendingInsertion : Option NoteEntry
  staleCount       : Nat
  lastRefusal      : RefusalReason
deriving DecidableEq, Repr

/-! ### Judge Unit, Chord Table, Tally Unit (R50, R75, R92, R93, R94, R96) -/

/-- The judgment windows and the hold grace (R50). -/
structure JudgeParams where
  e : Nat
  t : Nat
  n : Nat
  w : Nat
  g : Nat
deriving DecidableEq, Repr

/-- A chord record (R75). -/
structure ChordRecord where
  key           : Nat
  expected      : List Nat
  reports       : List (Nat × Grade)
  own           : Option Grade
  ownSent       : Bool
  forcedPending : Bool
deriving DecidableEq, Repr

/-- The kind of a report item (R96). -/
inductive ItemKind
  | tap | head | tail | forced
deriving DecidableEq, Repr

/-- An item of the report list (R96). -/
structure ReportItem where
  kind : ItemKind
  due  : Nat
deriving DecidableEq, Repr

/-- The tallies of a player (R92). -/
structure Replica where
  score    : Nat
  combo    : Nat
  maxCombo : Nat
  gauge    : Nat
deriving DecidableEq, Repr

/-- The seven own counts (R93). -/
structure OwnCounts where
  exact : Nat
  tight : Nat
  near  : Nat
  wide  : Nat
  miss  : Nat
  ok    : Nat
  ng    : Nat
deriving DecidableEq, Repr

/-- The Tally Unit but for its report list (R92, R93, R94). -/
structure TallyUnit where
  replica        : Replica
  doubles        : Bool
  failureEnabled : Bool
  counts         : OwnCounts
  noteValue      : Nat
deriving DecidableEq, Repr

/-! ### Line Controller (R130) -/

/-- What the station takes the line to be doing (R130). -/
inductive LineState
  | lineFree | receiving | contending | sending | lineBreak
deriving DecidableEq, Repr

/-- The frame being followed: bits sampled so far, and cells since its start edge (R130). -/
structure Assembly where
  bits  : List Bool
  cells : Nat
deriving DecidableEq, Repr

/-- What was decided at the start of the acknowledge cell of a followed frame (R139): the frame, whether this station
accepts it and so drives its acknowledge (R141), and why a NOTE for it was refused (R38). -/
structure Decision where
  frame    : Frame
  accepted : Bool
  refusal  : Option RefusalReason
deriving DecidableEq, Repr

/-- A source of the transmit selection (R135). -/
inductive Source
  | mark | report | status
deriving DecidableEq, Repr

/-- What a JUDGE frame is, as decided at its latch (R80, R86, R159). -/
inductive JudgeForm
  | closingSingle | closingChord | member | orphan | tail | forced
deriving DecidableEq, Repr

/-- A latched JUDGE frame: its item, its form, the grade or result it carries, the tallies it carries with the max
combo kept with them (R100; absent when it does not close), and whether the record of a FORCED item was evicted
while the frame was in flight (R97). -/
structure JudgeLatch where
  item    : ReportItem
  form    : JudgeForm
  result  : JudgeResult
  tallies : Option Replica
  evicted : Bool
deriving DecidableEq, Repr

/-- What a latched payload says to the sender at its end-of-frame (R137). -/
inductive Latch
  | mark
  | judge (j : JudgeLatch)
  | status
deriving DecidableEq, Repr

/-- The payload fixed at the payload latch, with what it says (R137). -/
structure Latched where
  content : Latch
  payload : List Byte
deriving DecidableEq, Repr

/-- The station's own frame from its start edge to its end (R130). `startTick` is the clock's tick at the start edge
(R25). -/
structure InFlight where
  source    : Source
  header    : Byte
  startTick : Nat
  latched   : Option Latched
  mismatch  : Bool
deriving DecidableEq, Repr

/-- The Line Controller (R130). -/
structure LineController where
  state      : LineState
  highCount  : Nat
  lastSender : Bool
  assembly   : Option Assembly
  decision   : Option Decision
  inFlight   : Option InFlight
  statusSlot : Option (Fin 4)
deriving DecidableEq, Repr

/-! ### Lamp Unit (R169) -/

/-- The station pattern in force (R169). -/
inductive Pattern
  | noPattern | lost | failed | faultDuplicate | faultStrap
deriving DecidableEq, Repr

/-- A judgment flash: its full colour, its remaining step count, and the cells since its last step (R169, R172). -/
structure Flash where
  colour : Quad Nat
  steps  : Nat
  timer  : Nat
deriving DecidableEq, Repr

/-- A lamp channel (R169). `duty` is the output duty of the PWM period in progress. -/
structure Channel where
  openFlag   : Bool
  runCount   : Nat
  shortLatch : Bool
  duty       : Nat
deriving DecidableEq, Repr

/-- The Lamp Unit (R169). Timers count cells. -/
structure LampUnit where
  base         : Quad Nat
  press        : Quad Nat
  flash        : Option Flash
  pattern      : Pattern
  patternTimer : Nat
  pwmTimer     : Nat
  channels     : Quad Channel
deriving DecidableEq, Repr

/-! ### The whole station -/

/-- The state of a station. `powered`, `freeCount` and `pending` are the model's own (INVENTORY.md). -/
structure State where
  powered   : Bool
  straps    : Straps
  station   : StationControl
  settings  : SettingsStore
  sense     : SenseUnit
  clock     : SongClock
  queue     : NoteQueue
  judge     : JudgeParams
  chords    : List ChordRecord
  tally     : TallyUnit
  reports   : List ReportItem
  line      : LineController
  lamp      : LampUnit
  freeCount : Nat
  pending   : List Instr
deriving DecidableEq, Repr

/-- Why a step stops with a fault. None does: the manual gives every command an effect in every state, and its FAULT is
a station state (R123). Safe: nothing is cut short. -/
inductive Fault
deriving DecidableEq, Repr

/-- Why a step is refused. -/
inductive Refusal
  /-- A command whose meaning is not modelled yet, raised by `exec` alone. Every command is modelled, so nothing raises
  it. Safe: it would stop the run. -/
  | notModelled (mnemonic : String)
deriving DecidableEq, Repr

/-! ### After reset -/

/-- Station Control after reset (R109). -/
def StationControl.atReset : StationControl :=
  { state := .startup, cause := .noFault, startTime := 0, endTime := 0, silence := none }

/-- The defaults of the working settings (R125). -/
def Settings.defaults : Settings :=
  { press := 600, release := 300, zoneSet := 15, inputOffset := 0, idleColour := ⟨0, 0, 0, 256⟩,
    pressColour := ⟨0, 0, 0, 4095⟩ }

/-- The non-volatile copy of a part that has never stored: zeros, over which the CRC byte 0 does not hold
(notes/assumptions/8.md, DESIGN CHOICE, unsafe). -/
def NvCopy.blank : NvCopy := { fields := List.replicate 12 0, crc := 0 }

/-- A zone record after reset (R3); its condition is assigned by the settings load, and is OFF until then
(notes/assumptions/12.md, DESIGN CHOICE). -/
def ZoneRecord.atReset : ZoneRecord :=
  { raw := 0, baseline := 0, condition := .off, railCount := 0, insideCount := 0 }

/-- The Sense Unit after reset (R3, R7, R9, R11). -/
def SenseUnit.atReset : SenseUnit :=
  { zones := Quad.fill .atReset, detector := .released, load := 0, drift := 0, sampleTimer := none, samples := 0 }

/-- The Song Clock after reset (R19). -/
def SongClock.atReset : SongClock :=
  { tick := 0, phase := 0, running := false, saturated := false, nextMark := some 256, markPending := false,
    slip := false }

/-- The Note Queue after reset (R44, R48). -/
def NoteQueue.atReset : NoteQueue :=
  { entries := [], pendingInsertion := none, staleCount := 0, lastRefusal := .noRefusal }

/-- The judging parameters after reset (R50). -/
def JudgeParams.atReset : JudgeParams := { e := 60, t := 120, n := 240, w := 480, g := 200 }

/-- Own counts of zero (R93). -/
def OwnCounts.zero : OwnCounts := { exact := 0, tight := 0, near := 0, wide := 0, miss := 0, ok := 0, ng := 0 }

/-- The Tally Unit after reset (R92, R93, R94). -/
def TallyUnit.atReset : TallyUnit :=
  { replica := { score := 0, combo := 0, maxCombo := 0, gauge := 0 }, doubles := false, failureEnabled := true,
    counts := .zero, noteValue := 1 }

/-- The Line Controller after reset (R130). -/
def LineController.atReset : LineController :=
  { state := .lineBreak, highCount := 0, lastSender := false, assembly := none, decision := none, inFlight := none,
    statusSlot := none }

/-- A lamp channel after reset (R169). -/
def Channel.atReset : Channel := { openFlag := false, runCount := 0, shortLatch := false, duty := 0 }

/-- The Lamp Unit after reset (R169); its colours come from the settings load, and are dark until then; the pattern timer and
the cells of the PWM period, which R169 gives no reset value, are 0 (notes/assumptions/12.md, DESIGN CHOICE). -/
def LampUnit.atReset : LampUnit :=
  { base := Quad.fill 0, press := Quad.fill 0, flash := none, pattern := .noPattern, patternTimer := 0, pwmTimer := 0,
    channels := Quad.fill .atReset }

/-- A part that has never stored, just reset, on straps that read pad 0, panel 0 (notes/assumptions/8.md, 11.md, 13.md,
DESIGN CHOICE). -/
def State.reset : State :=
  { powered := true, straps := { pad := false, panel := 0 }, station := .atReset,
    settings := { working := .defaults, nv := .blank, defaulted := false, job := none }, sense := .atReset,
    clock := .atReset, queue := .atReset, judge := .atReset, chords := [], tally := .atReset, reports := [],
    line := .atReset, lamp := .atReset, freeCount := 0, pending := [] }

end Sys2Proof.Machine
end

