-- ==== Sys2Proof/Machine/Ops.lean ====
section
/-! DEFINITION. The named operations every command is built from: replacing a block of State, reading the station's
identity and clock, signalling the lamps, joining the report list, entering FAILED, DONE and FAULT, and being told of a
frame heard. -/

namespace Sys2Proof.Machine

/-! ### Replacing one block -/

/-- `s` with its `powered` replaced. -/
def State.setPowered (s : State) (x : Bool) : State := { s with powered := x }

/-- `s` with its `straps` replaced. -/
def State.setStraps (s : State) (x : Straps) : State := { s with straps := x }

/-- `s` with its `station` replaced. -/
def State.setStation (s : State) (x : StationControl) : State := { s with station := x }

/-- `s` with its `settings` replaced. -/
def State.setSettings (s : State) (x : SettingsStore) : State := { s with settings := x }

/-- `s` with its `sense` replaced. -/
def State.setSense (s : State) (x : SenseUnit) : State := { s with sense := x }

/-- `s` with its `clock` replaced. -/
def State.setClock (s : State) (x : SongClock) : State := { s with clock := x }

/-- `s` with its `queue` replaced. -/
def State.setQueue (s : State) (x : NoteQueue) : State := { s with queue := x }

/-- `s` with its `judge` replaced. -/
def State.setJudge (s : State) (x : JudgeParams) : State := { s with judge := x }

/-- `s` with its `chords` replaced. -/
def State.setChords (s : State) (x : List ChordRecord) : State := { s with chords := x }

/-- `s` with its `tally` replaced. -/
def State.setTally (s : State) (x : TallyUnit) : State := { s with tally := x }

/-- `s` with its `reports` replaced. -/
def State.setReports (s : State) (x : List ReportItem) : State := { s with reports := x }

/-- `s` with its `line` replaced. -/
def State.setLine (s : State) (x : LineController) : State := { s with line := x }

/-- `s` with its `lamp` replaced. -/
def State.setLamp (s : State) (x : LampUnit) : State := { s with lamp := x }

/-- `s` with its `freeCount` replaced. -/
def State.setFreeCount (s : State) (x : Nat) : State := { s with freeCount := x }

/-- `s` with its `pending` replaced. -/
def State.setPending (s : State) (x : List Instr) : State := { s with pending := x }

/-- `f`, if the part has supply; else nothing happens (notes/assumptions/18.md). -/
def whenPowered (s : State) (f : State → State) : State := if s.powered then f s else s

/-! ### Identity -/

/-- The pad, 0 or 1 (R110). -/
def padNumber (p : Straps) : Nat := if p.pad then 1 else 0

/-- The floor address: pad x 16 + panel (R110). -/
def floorAddress (p : Straps) : Nat := padNumber p * 16 + p.panel.toNat

/-- The station's own floor address (R110). -/
def State.address (s : State) : Nat := floorAddress s.straps

/-- The floor address in the five bits of a header (R132). -/
def State.headerAddress (s : State) : BitVec 5 := BitVec.ofNat 5 s.address

/-- The player of a floor address under a doubles flag (R95). -/
def playerOf (doubles : Bool) (address : Nat) : Nat := if doubles then 0 else if address < 16 then 0 else 1

/-- The station's player (R95). -/
def State.player (s : State) : Nat := playerOf s.tally.doubles s.address

/-! ### Station states -/

/-- PLAYING and LOST, the states in which the Judge Unit and the Chord Table act (R52, R76). -/
def StationState.judges : StationState → Bool
  | .playing => true
  | .lost => true
  | .startup => false
  | .idle => false
  | .failed => false
  | .done => false
  | .fault => false

/-- The states in which frames are examined (R147). -/
def StationState.examines : StationState → Bool
  | .idle => true
  | .playing => true
  | .lost => true
  | .failed => true
  | .done => true
  | .startup => false
  | .fault => false

/-- The states in which closing frames are adopted (R103). -/
def StationState.adopts : StationState → Bool
  | .playing => true
  | .lost => true
  | .done => true
  | .startup => false
  | .idle => false
  | .failed => false
  | .fault => false

/-- The states in which a NOTE is not refused WRONG_STATE (R38). -/
def StationState.takesNotes : StationState → Bool
  | .idle => true
  | .playing => true
  | .lost => true
  | .startup => false
  | .failed => false
  | .done => false
  | .fault => false

/-! ### The adjusted clock -/

/-- A tick plus the input offset, clamped (R30, R51). -/
def State.adjust (s : State) (tick : Nat) : Nat := clampTick (tick + s.settings.working.inputOffset)

/-- The adjusted clock (R30). -/
def State.adjClock (s : State) : Nat := s.adjust s.clock.tick

/-! ### Lamps, report list, Note Queue entries -/

/-- The full colour of a grade or a hold result (R173). -/
def flashColour : JudgeResult → Quad Nat
  | .grade .exact => ⟨0, 0, 0, 4095⟩
  | .grade .tight => ⟨0, 4095, 4095, 0⟩
  | .grade .near => ⟨0, 4095, 0, 0⟩
  | .grade .wide => ⟨4095, 4095, 0, 0⟩
  | .grade .miss => ⟨4095, 0, 0, 0⟩
  | .hold .ok => ⟨0, 0, 4095, 0⟩
  | .hold .ng => ⟨4095, 0, 4095, 0⟩

/-- A flash signal: the flash is present in the colour of the result with 16 steps, its step timer afresh (R172). -/
def signalFlash (r : JudgeResult) (s : State) : State :=
  s.setLamp { s.lamp with flash := some { colour := flashColour r, steps := 16, timer := 0 } }

/-- The pattern of the lamps replaced (R170). -/
def setPattern (p : Pattern) (s : State) : State := s.setLamp { s.lamp with pattern := p }

/-- An item joins the end of the report list (R69, R96). -/
def addItem (kind : ItemKind) (due : Nat) (s : State) : State := s.setReports (s.reports ++ [{ kind := kind, due := due }])

/-- The entry of a due time (R34: an entry is identified by its due). -/
def findEntry (due : Nat) (s : State) : Option NoteEntry := s.queue.entries.find? fun e => e.due == due

/-- The entries of a due time changed by `f`. -/
def updateEntry (due : Nat) (f : NoteEntry → NoteEntry) (s : State) : State :=
  s.setQueue { s.queue with entries := s.queue.entries.map fun e => if e.due = due then f e else e }

/-- The entries of a due time removed; the others keep their places (R35, R46). -/
def removeEntry (due : Nat) (s : State) : State :=
  s.setQueue { s.queue with entries := s.queue.entries.filter fun e => e.due != due }

/-- The record of a key (R75: no two records share a key). -/
def findRecord (key : Nat) (s : State) : Option ChordRecord := s.chords.find? fun r => r.key == key

/-- The records of a key changed by `f`. -/
def updateRecord (key : Nat) (f : ChordRecord → ChordRecord) (s : State) : State :=
  s.setChords (s.chords.map fun r => if r.key = key then f r else r)

/-- The records of a key removed. -/
def removeRecord (key : Nat) (s : State) : State := s.setChords (s.chords.filter fun r => r.key != key)

/-- The forced-close items of a key leave the report list; the items behind close up (R79, R83). -/
def removeForced (key : Nat) (s : State) : State :=
  s.setReports (s.reports.filter fun i => !(i.kind == .forced && i.due == key))

/-- The grade of a head result; a lapse is MISS (R33). -/
def HeadResult.grade : HeadResult → Grade
  | .struck _ g => g
  | .lapse => .miss

/-- The head of an entry has not been reported: a TAP still in the queue, or a HOLD with head sent clear (R78, R83). -/
def NoteEntry.headUnreported (e : NoteEntry) : Bool :=
  match e.kind with
  | .tap => true
  | .hold _ => !e.headSent

/-! ### Emptying, and leaving PLAYING -/

/-- The Note Queue emptied with any pending insertion, its two counts for the console kept (R44, R47, R48). -/
def NoteQueue.emptied (q : NoteQueue) : NoteQueue := { q with entries := [], pendingInsertion := none }

/-- Note Queue, Chord Table and report list emptied (R47, R48, R89, R96). -/
def emptySong (s : State) : State := ((s.setQueue s.queue.emptied).setChords []).setReports []

/-- The station state and the silence timer replaced. -/
def setState (st : StationState) (silence : Option Nat) (s : State) : State :=
  s.setStation { s.station with state := st, silence := silence }

/-- The song clock stopped, its tick and phase held, its MARK slot emptied (R23). -/
def SongClock.stopped (c : SongClock) : SongClock := { c with running := false, markPending := false }

/-- Entry to FAILED (R121). -/
def enterFailed (s : State) : State := setPattern .failed (setState .failed none (emptySong s))

/-- Entry to DONE (R120). -/
def enterDone (s : State) : State := setState .done none s

/-- Entry to LOST (R118). -/
def enterLost (s : State) : State := setPattern .lost (setState .lost none s)

/-- Whether the Line Controller follows or sends a frame. -/
def LineController.busyWithFrame (l : LineController) : Bool :=
  l.assembly.isSome || l.decision.isSome || l.inFlight.isSome

/-- The Line Controller on entry to FAULT: the frame in flight or followed is cut off, the STATUS slot emptied (R123).
The line state, high count and last-sender flag it leaves are deduced (notes/assumptions/14.md). -/
def LineController.cutOff (l : LineController) : LineController :=
  { l with state := if l.busyWithFrame then .receiving else l.state, assembly := none, decision := none,
           inFlight := none, statusSlot := none }

/-- The FORCED item whose record was evicted while its frame was in flight leaves the list when that frame
ends without its end-of-frame (R97). -/
def dropEvicted (s : State) : State :=
  match s.line.inFlight with
  | some { latched := some { content := .judge j, .. }, .. } => if j.evicted then s.setReports s.reports.tail else s
  | _ => s

/-- The pattern of a fault cause (R170). -/
def FaultCause.pattern : FaultCause → Pattern
  | .noFault => .noPattern
  | .strap => .faultStrap
  | .duplicate => .faultDuplicate

/-- Entry to FAULT (R123): the clock stops, the song's lists and the STATUS slot empty, the line is released, and the
pattern timer starts at 0 (R171). -/
def enterFault (cause : FaultCause) (s : State) : State :=
  let s := (emptySong s).setClock s.clock.stopped
  let s := s.setStation { s.station with state := .fault, cause := cause, silence := none }
  let s := s.setLine s.line.cutOff
  s.setLamp { s.lamp with pattern := cause.pattern, patternTimer := 0 }

/-- Station Control is told of a frame heard or acknowledged (R117, R119): PLAYING restarts its silence timer, LOST
returns to PLAYING with the timer at 0 and its pattern gone. -/
def heardFrame (s : State) : State :=
  match s.station.state with
  | .playing => setState .playing (some 0) s
  | .lost => setPattern .noPattern (setState .playing (some 0) s)
  | _ => s

end Sys2Proof.Machine
end

