-- ==== Sys2Proof/Machine/Lamps.lean ====
section
/-! DEFINITION. The Lamp Unit: composition, the flash and the FAULT pattern in time, PWM periods, channel diagnostics
(R169 to R177). -/

namespace Sys2Proof.Machine

/-! ### Composition (R170, R171, R173) -/

/-- The duties of a flash: full colour times remaining steps, by 16 (R173). -/
def Flash.duties (f : Flash) : Quad Nat := f.colour.map fun c => c * f.steps / 16

/-- The press layer is in force: PRESSED or RELEASING (R15, R170). -/
def Detector.down : Detector → Bool
  | .released => false
  | .pressing _ => false
  | .pressed => true
  | .releasing _ _ => true

/-- Whether the settings load of STARTUP has completed: it starts the sample timer (R1, R126). -/
def State.loaded (s : State) : Bool := s.sense.sampleTimer.isSome

/-- The first half of a FAULT pattern's cycle (R171). -/
def LampUnit.firstHalf (l : LampUnit) : Bool := decide (l.patternTimer < Config.cellsPer250ms)

/-- The composed duties: those of the highest layer in force (R170, R171). -/
def composed (s : State) : Quad Nat :=
  match s.lamp.pattern with
  | .faultDuplicate => if s.lamp.firstHalf then ⟨4095, 0, 0, 0⟩ else Quad.fill 0
  | .faultStrap => if s.lamp.firstHalf then ⟨4095, 0, 0, 0⟩ else ⟨0, 0, 4095, 0⟩
  | .lost => ⟨0, 0, 0, 1024⟩
  | .failed => ⟨512, 0, 0, 0⟩
  | .noPattern =>
    match s.lamp.flash with
    | some f => f.duties
    | none => if s.sense.detector.down then s.lamp.press else s.lamp.base

/-! ### PWM periods and diagnostics (R169, R175, R176) -/

/-- The diagnostic level: a channel is measured in a period whose output duty is at least this (R175). -/
def diagnosticLevel : Nat := 64

/-- The run count has reached 8: the open flag is set or cleared, and the run count is 0 (R175). -/
def Channel.reachOpen (c : Channel) : Channel :=
  if 8 ≤ c.runCount then { c with openFlag := !c.openFlag, runCount := 0 } else c

/-- The open flag's run after a measured period (R175): a period against the flag's value lengthens it, one that agrees
ends it. -/
def Channel.runOn (c : Channel) (current : Bool) : Channel :=
  if current == c.openFlag then Channel.reachOpen { c with runCount := c.runCount + 1 } else { c with runCount := 0 }

/-- The end of a PWM period at a channel: a measured one reports current and over-current (R175, R176). -/
def Channel.endPeriod (x : ChannelSense) (c : Channel) : Channel :=
  if diagnosticLevel ≤ c.duty then
    let c := c.runOn x.current
    { c with shortLatch := c.shortLatch || x.overCurrent }
  else c

/-- The start of a PWM period at a channel: the composed duty, or 0 when its short latch is set (R169). -/
def Channel.startPeriod (duty : Nat) (c : Channel) : Channel := { c with duty := if c.shortLatch then 0 else duty }

/-- The duties a period starts with: dark until the settings load has completed (R169). -/
def State.dutiesNow (s : State) : Quad Nat := if s.loaded then composed s else Quad.fill 0

/-- One PWM period ends and the next begins (R169, R175, R176). -/
def pwmBoundary (sensed : Quad ChannelSense) (s : State) : State :=
  let ended := Quad.zip Channel.endPeriod sensed s.lamp.channels
  s.setLamp { s.lamp with channels := Quad.zip Channel.startPeriod s.dutiesNow ended, pwmTimer := 0 }

/-- PWM_PERIOD (R169): the boundary between two periods (notes/assumptions/25.md). -/
def execPwmPeriod (sensed : Quad ChannelSense) (s : State) : Host.Outcome State Fault Refusal :=
  .next (whenPowered s (pwmBoundary sensed))

/-- OPEN_FLAG (R175): a channel's run count has reached 8. -/
def execOpenFlag (channel : Fin 4) (s : State) : Host.Outcome State Fault Refusal :=
  .next (whenPowered s fun s =>
    s.setLamp { s.lamp with channels := s.lamp.channels.modify channel Channel.reachOpen })

/-! ### The flash and the FAULT pattern in time (R171, R172) -/

/-- A flash one step on: absent when no step is left (R172). -/
def Flash.step (f : Flash) : Option Flash :=
  if f.steps ≤ 1 then none else some { f with steps := f.steps - 1, timer := 0 }

/-- The flash one step on, if present (R172). -/
def flashStep (s : State) : State := s.setLamp { s.lamp with flash := s.lamp.flash.bind Flash.step }

/-- FLASH_STEP (R172, R173). -/
def execFlashStep (s : State) : Host.Outcome State Fault Refusal := .next (whenPowered s flashStep)

/-- The pattern timer runs in FAULT only (R169, R171). -/
def Pattern.blinks : Pattern → Bool
  | .faultDuplicate => true
  | .faultStrap => true
  | .noPattern => false
  | .lost => false
  | .failed => false

/-- The pattern timer at the start of the other half of its cycle (R171). -/
def otherHalf (s : State) : State :=
  if s.lamp.pattern.blinks then
    s.setLamp { s.lamp with patternTimer := if s.lamp.firstHalf then Config.cellsPer250ms else 0 }
  else s

/-- FAULT_PATTERN_TIMER (R171): the pattern timer crosses a half of its cycle. -/
def execFaultPatternTimer (s : State) : Host.Outcome State Fault Refusal := .next (whenPowered s otherHalf)

/-! ### Colours (R174) -/

/-- The short latch of every channel cleared (R163, R176). -/
def clearLatches (s : State) : State :=
  s.setLamp { s.lamp with channels := s.lamp.channels.map fun c => { c with shortLatch := false } }

/-- The colour of a layer replaced (R163). -/
def setLayer (layer : LampLayer) (colour : Quad Nat) (s : State) : State :=
  match layer with
  | .base => s.setLamp { s.lamp with base := colour }
  | .press => s.setLamp { s.lamp with press := colour }

/-- An accepted LAMP frame: the layer takes the colour, then the latches are cleared if the flag says so (R163). -/
def takeLamp (f : LampFrame) (clear : Bool) (s : State) : State :=
  let s := setLayer f.layer (f.colour.map BitVec.toNat) s
  if clear then clearLatches s else s

end Sys2Proof.Machine
end

