-- ==== Sys2Proof/Machine/Chords.lean ====
section
/-! DEFINITION. The Chord Table: building records, eviction, member reports and closures heard, the forced-close item
(R75 to R91). -/

namespace Sys2Proof.Machine

/-- The place of a grade in the order EXACT, TIGHT, NEAR, WIDE, MISS (00_scope.md 0.5). -/
def gradeRank : Grade → Nat
  | .exact => 0
  | .tight => 1
  | .near => 2
  | .wide => 3
  | .miss => 4

/-- The worse of two grades: the one latest in the order. -/
def worst (a b : Grade) : Grade := if gradeRank a ≤ gradeRank b then b else a

/-- The records the Chord Table has room for (R75). -/
def chordCapacity : Nat := 8

/-- The earliest key in the table. -/
def earliestKey (rs : List ChordRecord) : Option Nat := (rs.map ChordRecord.key).min?

/-- Whether the FORCED item of a key is latched in the station's own frame in flight (R97). -/
def forcedInFlight (key : Nat) (s : State) : Bool :=
  match s.line.inFlight with
  | some { latched := some { content := .judge j, .. }, .. } => j.form == .forced && j.item.due == key
  | _ => false

/-- A latched JUDGE frame marked as one whose record was evicted (R97). -/
def markEvicted : Latched → Latched
  | { content := .judge j, payload := p } => { content := .judge { j with evicted := true }, payload := p }
  | l => l

/-- The frame in flight marked as one whose record was evicted (R97). -/
def condemnInFlight (s : State) : State :=
  s.setLine { s.line with inFlight := s.line.inFlight.map fun f => { f with latched := f.latched.map markEvicted } }

/-- Eviction of the records of a key (R79): a pending forced-close item goes with its record, unless it is in flight,
when it stays until its frame ends (R97). -/
def evict (key : Nat) (s : State) : State :=
  match findRecord key s with
  | none => s
  | some r =>
    if r.forcedPending then
      if forcedInFlight key s then condemnInFlight (removeRecord key s) else removeForced key (removeRecord key s)
    else removeRecord key s

/-- Room for a record of R77: a full table gives up its earliest key (R79). -/
def makeRoom (s : State) : State :=
  if chordCapacity ≤ s.chords.length then
    match earliestKey s.chords with
    | some k => evict k s
    | none => s
  else s

/-- A record joins the table. -/
def addRecord (r : ChordRecord) (s : State) : State := s.setChords (s.chords ++ [r])

/-- The record an entry opens, with the reports and the own grade it starts with (R77, R78). -/
def openRecord (e : NoteEntry) (reports : List (Nat × Grade)) (own : Option Grade) : ChordRecord :=
  { key := e.due, expected := e.partners, reports := reports, own := own, ownSent := false, forcedPending := false }

/-- The Chord Table is told the head grade of an own entry (R70 step 2, R77). -/
def tellChord (e : NoteEntry) (g : Grade) (s : State) : State :=
  if e.partners.isEmpty || e.chordClosed then s
  else if (findRecord e.due s).isSome then updateRecord e.due (fun r => { r with own := some g }) s
  else addRecord (openRecord e [] (some g)) (makeRoom s)

/-- Whether a JUDGE frame concerns a chord of this station (R76). -/
def concerns (sender due : Nat) (s : State) : Bool :=
  s.chords.any (fun r => r.key == due && r.expected.contains sender) ||
    s.queue.entries.any fun e => e.due == due && e.partners.contains sender

/-- A partner's grade joins a record that has none of that partner's (R78 case 1). -/
def addReport (sender : Nat) (g : Grade) (r : ChordRecord) : ChordRecord :=
  if r.reports.any (fun p => p.1 == sender) then r else { r with reports := r.reports ++ [(sender, g)] }

/-- A member report heard, orphan flag clear (R78). -/
def hearReport (sender due : Nat) (g : Grade) (s : State) : State :=
  match findRecord due s with
  | some r => if r.expected.contains sender then updateRecord due (addReport sender g) s else s
  | none =>
    match findEntry due s with
    | some e =>
      if e.partners.contains sender && !e.chordClosed && e.headUnreported && decide (s.chords.length < chordCapacity) then
        addRecord (openRecord e [(sender, g)] (e.head.map HeadResult.grade)) s
      else s
    | none => s

/-- The record of a closure heard is removed, with its forced-close item (R83). -/
def closeRecord (sender due : Nat) (s : State) : State :=
  match findRecord due s with
  | some r =>
    if r.expected.contains sender then
      if r.forcedPending then removeForced due (removeRecord due s) else removeRecord due s
    else s
  | none => s

/-- The entry of a closure heard, its head not reported, becomes chord-closed (R83). -/
def closeEntry (sender due : Nat) (s : State) : State :=
  updateEntry due (fun e => if e.partners.contains sender && e.headUnreported then { e with chordClosed := true } else e) s

/-- A closing frame heard that concerns this station (R83). -/
def hearClosure (sender due : Nat) (g : Grade) (s : State) : State :=
  signalFlash (.grade g) (closeEntry sender due (closeRecord sender due s))

/-- A closing frame heard, taken by the Chord Table in PLAYING and LOST if it concerns this station (R76). -/
def examineClosure (sender due : Nat) (g : Grade) (s : State) : State :=
  if s.station.state.judges && concerns sender due s then hearClosure sender due g s else s

/-- A member report heard, taken by the Chord Table in PLAYING and LOST if it concerns this station (R76). -/
def examineReport (sender due : Nat) (g : Grade) (s : State) : State :=
  if s.station.state.judges && concerns sender due s then hearReport sender due g s else s

/-- The fall time of the forced-close point of a key: key + w + 4, the chord grace of 200, and one (R85). -/
def forcedFall (w key : Nat) : Nat := key + w + 205

/-- The forced-close point of a key taken (R85): with own-sent set and none pending, an item joins the report list. -/
def takeForced (key : Nat) (s : State) : State :=
  match findRecord key s with
  | some r =>
    if r.ownSent && !r.forcedPending then
      addItem .forced key (updateRecord key (fun r => { r with forcedPending := true }) s)
    else s
  | none => s

/-- FORCED_CLOSE_POINT (R85): the adjusted clock has passed the point of a key; the item is added as R85 lays down. -/
def execForcedClosePoint (key : Nat) (s : State) : Host.Outcome State Fault Refusal :=
  .next (whenPowered s fun s =>
    if s.station.state.judges && decide (forcedFall s.judge.w key ≤ s.adjClock) then takeForced key s else s)

end Sys2Proof.Machine
end

