-- ==== Sys2Proof/Machine/Judge.lean ====
section
/-! DEFINITION. The Judge Unit: presses, releases, lapses, hold ends, grace expiries (R50 to R74). -/

namespace Sys2Proof.Machine

/-! ### Grading -/

/-- The distance between two ticks, in either direction. -/
def tickDistance (a b : Nat) : Nat := ((a : Int) - (b : Int)).natAbs

/-- The grade of a matched press by the size of its offset (R55). -/
def gradeOf (j : JudgeParams) (size : Nat) : Grade :=
  if size ≤ j.e then .exact else if size ≤ j.t then .tight else if size ≤ j.n then .near else .wide

/-- The head result of a press at an adjusted time against a due (R55). -/
def strike (j : JudgeParams) (time due : Nat) : HeadResult :=
  .struck ((time : Int) - (due : Int)) (gradeOf j (tickDistance time due))

/-- WAITING. -/
def EntryState.isWaiting : EntryState → Bool
  | .waiting => true
  | .holding => false
  | .slipping _ => false
  | .judged => false

/-- HOLDING. -/
def EntryState.isHolding : EntryState → Bool
  | .holding => true
  | .waiting => false
  | .slipping _ => false
  | .judged => false

/-- SLIPPING. -/
def EntryState.isSlipping : EntryState → Bool
  | .slipping _ => true
  | .waiting => false
  | .holding => false
  | .judged => false

/-- The tick at which a hold ends, due + hold length; a TAP has none (R61). -/
def NoteEntry.holdEndTime (e : NoteEntry) : Option Nat :=
  match e.kind with
  | .tap => none
  | .hold n => some (e.due + n)

/-! ### Results, each handed on in the order of R70 -/

/-- The result of a TAP, by a press (R56) or a lapse (R62). -/
def resolveTap (e : NoteEntry) (h : HeadResult) (s : State) : State :=
  let s := updateEntry e.due (fun x => { x with state := .judged, head := some h }) s
  let s := tellChord e h.grade s
  let s := addItem .tap e.due s
  signalFlash (.grade h.grade) s

/-- The tail result of a HOLD: JUDGED, the TAIL item, the signal (R64, R65). -/
def resolveTail (due : Nat) (r : HoldResult) (s : State) : State :=
  let s := updateEntry due (fun x => { x with state := .judged, tail := some r }) s
  let s := addItem .tail due s
  signalFlash (.hold r) s

/-- The head of a HOLD stepped: HOLDING, with its HEAD item and signal (R57). -/
def startHold (e : NoteEntry) (h : HeadResult) (s : State) : State :=
  let s := updateEntry e.due (fun x => { x with state := .holding, head := some h, headSent := false }) s
  let s := tellChord e h.grade s
  let s := addItem .head e.due s
  signalFlash (.grade h.grade) s

/-- The head of a HOLD stepped, and its hold end taken at once if the adjusted clock has reached it (R57). -/
def strikeHold (e : NoteEntry) (h : HeadResult) (length : Nat) (s : State) : State :=
  let t := startHold e h s
  if e.due + length ≤ s.adjClock then resolveTail e.due .ok t else t

/-- The lapse of a HOLD: MISS and NG together, HEAD then TAIL item, the two signals in order (R63). -/
def lapseHold (e : NoteEntry) (s : State) : State :=
  let s := updateEntry e.due
    (fun x => { x with state := .judged, head := some .lapse, headSent := false, tail := some .ng }) s
  let s := tellChord e .miss s
  let s := addItem .head e.due s
  let s := addItem .tail e.due s
  let s := signalFlash (.grade .miss) s
  signalFlash (.hold .ng) s

/-! ### Presses and releases -/

/-- The first SLIPPING entry. -/
def findSlipping (s : State) : Option NoteEntry := s.queue.entries.find? fun e => e.state.isSlipping

/-- The WAITING entry of earliest due whose due lies within the wide window of an adjusted time (R54); the queue is in
due order (R35). -/
def findCandidate (time : Nat) (s : State) : Option NoteEntry :=
  s.queue.entries.find? fun e => e.state.isWaiting && decide (tickDistance time e.due ≤ s.judge.w)

/-- A re-grip: the SLIPPING entry returns to HOLDING (R53). -/
def reGrip (e : NoteEntry) (s : State) : State := updateEntry e.due (fun x => { x with state := .holding }) s

/-- A press matched to an entry, by kind (R56, R57). -/
def matchPress (e : NoteEntry) (time : Nat) (s : State) : State :=
  match e.kind with
  | .tap => resolveTap e (strike s.judge time e.due) s
  | .hold n => strikeHold e (strike s.judge time e.due) n s

/-- A press at an adjusted time: offered to a slipping hold, else matched to the earliest candidate, else a stray
(R53, R54, R58). -/
def judgePress (time : Nat) (s : State) : State :=
  match findSlipping s with
  | some e => reGrip e s
  | none =>
    match findCandidate time s with
    | some e => matchPress e time s
    | none => s

/-- A release at an adjusted time: the HOLDING entry slips, and its grace may already have run out (R59). With a hold grace
of 0, where the adjusted clock is clamped to the adjusted time of the release and so does not exceed it, R59's two
sentences differ; the model follows the condition (notes/assumptions/38.md, DESIGN CHOICE). -/
def judgeRelease (time : Nat) (s : State) : State :=
  match s.queue.entries.find? fun e => e.state.isHolding with
  | some e =>
    let t := updateEntry e.due (fun x => { x with state := .slipping time }) s
    if time + s.judge.g < s.adjClock then resolveTail e.due .ng t else t
  | none => s

/-- A press event with its stamp, handed on in PLAYING and LOST only (R15, R51, R52). -/
def emitPress (stamp : Nat) (s : State) : State :=
  if s.station.state.judges then judgePress (s.adjust stamp) s else s

/-- A release event with its stamp, handed on in PLAYING and LOST only (R15, R51, R52). -/
def emitRelease (stamp : Nat) (s : State) : State :=
  if s.station.state.judges then judgeRelease (s.adjust stamp) s else s

/-! ### Thresholds taken (R61) -/

/-- The fall time of a lapse: due + w + 5 (R61). -/
def lapseFall (w due : Nat) : Nat := due + w + 5

/-- The fall time of a grace expiry: slip-start + g + 1 (R61). -/
def graceFall (g slipStart : Nat) : Nat := slipStart + g + 1

/-- The lapse of an entry, skipped if it is not WAITING (R61, R62, R63). -/
def takeLapse (due : Nat) (s : State) : State :=
  match findEntry due s with
  | some e =>
    if e.state.isWaiting then
      match e.kind with
      | .tap => resolveTap e .lapse s
      | .hold _ => lapseHold e s
    else s
  | none => s

/-- The hold end of an entry, skipped if it is not HOLDING or SLIPPING (R61, R64). -/
def takeHoldEnd (due : Nat) (s : State) : State :=
  match findEntry due s with
  | some e => if (e.state.isHolding || e.state.isSlipping) && e.holdEndTime.isSome then resolveTail due .ok s else s
  | none => s

/-- The grace expiry of an entry, skipped if it is not SLIPPING (R61, R65). -/
def takeGrace (due : Nat) (s : State) : State :=
  match findEntry due s with
  | some e => if e.state.isSlipping then resolveTail due .ng s else s
  | none => s

/-! ### The thresholds as commands of their own (notes/assumptions/3.md)

Each is taken when its condition holds on the adjusted clock, in PLAYING and LOST. -/

/-- A hold end that stands before the grace expiry of the same entry: its fall time is not later (R65). -/
def NoteEntry.endsBeforeGrace (e : NoteEntry) (g : Nat) : Bool :=
  match e.holdEndTime, e.state with
  | some t, .slipping ss => t ≤ graceFall g ss
  | some _, _ => true
  | none, _ => false

/-- Whether an entry's hold end has fallen, and before any grace expiry of it (R61, R65). -/
def NoteEntry.holdEndDue (e : NoteEntry) (g adj : Nat) : Bool :=
  match e.holdEndTime with
  | some t => decide (t ≤ adj) && e.endsBeforeGrace g
  | none => false

/-- Whether an entry's grace has run out, and not behind its hold end (R61, R65). -/
def NoteEntry.graceDue (e : NoteEntry) (g adj : Nat) : Bool :=
  match e.state with
  | .slipping ss => decide (graceFall g ss ≤ adj) && !e.holdEndDue g adj
  | _ => false

/-- LAPSE (R62, R63). -/
def execLapse (due : Nat) (s : State) : Host.Outcome State Fault Refusal :=
  .next (whenPowered s fun s =>
    if s.station.state.judges && decide (lapseFall s.judge.w due ≤ s.adjClock) then takeLapse due s else s)

/-- HOLD_END (R64). -/
def execHoldEnd (due : Nat) (s : State) : Host.Outcome State Fault Refusal :=
  .next (whenPowered s fun s =>
    if s.station.state.judges && (findEntry due s).any (fun e => e.holdEndDue s.judge.g s.adjClock) then takeHoldEnd due s
    else s)

/-- GRACE_EXPIRY (R65). -/
def execGraceExpiry (due : Nat) (s : State) : Host.Outcome State Fault Refusal :=
  .next (whenPowered s fun s =>
    if s.station.state.judges && (findEntry due s).any (fun e => e.graceDue s.judge.g s.adjClock) then takeGrace due s
    else s)

end Sys2Proof.Machine
end

