-- ==== Sys2Proof/Machine/SongTime.lean ====
section
/-! DEFINITION. The Song Clock's advances: tick boundaries, the thresholds an advance passes, forward correction by a
mark, saturation, the DONE condition (R19 to R32, R120). -/

namespace Sys2Proof.Machine

/-! ### Mark points and saturation -/

/-- The last mark point a song can reach (R22). -/
def lastMarkPoint : Nat := 16776960

/-- The smallest multiple of 256 greater than a tick, or none beyond the last mark point (R21, R25, R28). -/
def nextMarkAfter (tick : Nat) : Option Nat :=
  let m := (tick / 256 + 1) * 256
  if m ≤ lastMarkPoint then some m else none

/-- The clock saturates (R22). -/
def SongClock.saturate (c : SongClock) : SongClock :=
  { c with phase := 0, saturated := true, nextMark := none, markPending := false }

/-- The MARK slot becomes pending when the tick has reached the next mark point (R24). -/
def SongClock.reachMark (c : SongClock) : SongClock :=
  match c.nextMark with
  | some m => if m ≤ c.tick then { c with markPending := true } else c
  | none => c

/-! ### Thresholds passed by an advance (R30, R61, R85) -/

/-- The kinds of threshold. -/
inductive ThresholdKind
  | lapse | holdEnd | grace | forced
deriving DecidableEq, Repr

/-- A threshold: its fall time, its kind, and the due or key it belongs to. -/
structure Threshold where
  fall : Nat
  kind : ThresholdKind
  due  : Nat
deriving DecidableEq, Repr

/-- Judge Unit before Chord Table (R30). -/
def ThresholdKind.block : ThresholdKind → Nat
  | .lapse => 0
  | .holdEnd => 0
  | .grace => 0
  | .forced => 1

/-- The hold end before the grace expiry of the same entry (R65). -/
def ThresholdKind.rank : ThresholdKind → Nat
  | .holdEnd => 0
  | .lapse => 1
  | .grace => 2
  | .forced => 3

/-- Lexicographic order of two lists of numbers. -/
def lexLe : List Nat → List Nat → Bool
  | [], _ => true
  | _ :: _, [] => false
  | a :: as, b :: bs => a < b || (a == b && lexLe as bs)

/-- The order in which thresholds are taken: fall time, block, due, and hold end before grace expiry (R30, R65, R68). -/
def Threshold.le (x y : Threshold) : Bool :=
  lexLe [x.fall, x.kind.block, x.due, x.kind.rank] [y.fall, y.kind.block, y.due, y.kind.rank]

/-- A threshold put in its place in an ordered list. -/
def insertThreshold (x : Threshold) : List Threshold → List Threshold
  | [] => [x]
  | y :: ys => if x.le y then x :: y :: ys else y :: insertThreshold x ys

/-- Thresholds in the order they are taken. -/
def sortThresholds (l : List Threshold) : List Threshold := l.foldr insertThreshold []

/-- The thresholds of an entry in its state (R61). -/
def entryThresholds (j : JudgeParams) (e : NoteEntry) : List Threshold :=
  match e.state, e.holdEndTime with
  | .waiting, _ => [{ fall := lapseFall j.w e.due, kind := .lapse, due := e.due }]
  | .holding, some t => [{ fall := t, kind := .holdEnd, due := e.due }]
  | .slipping ss, some t =>
    [{ fall := t, kind := .holdEnd, due := e.due }, { fall := graceFall j.g ss, kind := .grace, due := e.due }]
  | _, _ => []

/-- Every threshold of the Judge Unit and the Chord Table. -/
def thresholds (s : State) : List Threshold :=
  s.queue.entries.flatMap (entryThresholds s.judge) ++
    s.chords.map fun r => { fall := forcedFall s.judge.w r.key, kind := .forced, due := r.key }

/-- The thresholds an advance of the adjusted clock from `old` to `new` passes, in the order they are taken (R30).
One whose fall time exceeds 16,777,215 is never passed, because `new` does not (R31). -/
def passed (old new : Nat) (s : State) : List Threshold :=
  sortThresholds ((thresholds s).filter fun t => decide (old < t.fall) && decide (t.fall ≤ new))

/-- One threshold taken, with the state left by those before it (R30). -/
def takeThreshold (s : State) (t : Threshold) : State :=
  match t.kind with
  | .lapse => takeLapse t.due s
  | .holdEnd => takeHoldEnd t.due s
  | .grace => takeGrace t.due s
  | .forced => takeForced t.due s

/-- Every threshold the advance passes, in PLAYING and LOST (R30, R52, R76). -/
def takeThresholds (old new : Nat) (s : State) : State :=
  if s.station.state.judges then (passed old new s).foldl takeThreshold s else s

/-! ### The DONE condition (R120) -/

/-- The DONE condition (R120). -/
def doneCondition (s : State) : Bool :=
  decide (s.station.endTime ≤ s.adjClock) && s.queue.entries.isEmpty && s.queue.pendingInsertion.isNone &&
    s.reports.isEmpty && s.chords.isEmpty

/-- The DONE condition examined, in PLAYING only (R120). -/
def examineDone (s : State) : State :=
  if s.station.state = .playing ∧ doneCondition s = true then enterDone s else s

/-- An advance of the tick reported to the Judge Unit, the Chord Table and Station Control (R30). -/
def reportAdvance (old new : Nat) (s : State) : State := examineDone (takeThresholds (s.adjust old) (s.adjust new) s)

/-! ### Tick boundaries -/

/-- The clock at a tick boundary (R20, R22, R24). -/
def SongClock.nextTick (c : SongClock) : SongClock :=
  let c := { c with tick := c.tick + 1, phase := 0 }
  if c.tick = maxTick then c.saturate else c.reachMark

/-- Whether the clock makes tick boundaries: running, and not at its limit (R20, R22). -/
def SongClock.advances (c : SongClock) : Bool := c.running && !c.saturated && decide (c.tick < maxTick)

/-- A tick boundary of a clock that makes them, with all it brings (R20, R22, R24, R30). -/
def tickBoundary (s : State) : State :=
  if s.clock.advances then reportAdvance s.clock.tick (s.clock.tick + 1) (s.setClock s.clock.nextTick) else s

/-- TICK_ADVANCE (R20, R30). -/
def execTickAdvance (s : State) : Host.Outcome State Fault Refusal := .next (whenPowered s tickBoundary)

/-- MARK_POINT (R24): the tick of a running, unsaturated clock has reached the next mark point. -/
def execMarkPoint (s : State) : Host.Outcome State Fault Refusal :=
  .next (whenPowered s fun s =>
    if s.clock.running && !s.clock.saturated then s.setClock s.clock.reachMark else s)

/-- SATURATION (R22): the tick of a running clock has reached 16,777,215. -/
def execSaturation (s : State) : Host.Outcome State Fault Refusal :=
  .next (whenPowered s fun s =>
    if s.clock.running && decide (s.clock.tick = maxTick) then s.setClock s.clock.saturate else s)

/-! ### Forward correction (R27, R28, R29) -/

/-- The target of a mark that carries `m`: (m + 2, 9), or the saturated value (R27). -/
def markTarget (m : Nat) : Nat × Nat := if maxTick ≤ m + 2 then (maxTick, 0) else (m + 2, 9)

/-- Whether a clock value is earlier than another: tick first, phase second (R27). -/
def earlier (a b : Nat × Nat) : Bool := a.1 < b.1 || (a.1 == b.1 && a.2 < b.2)

/-- A clock value in cells. -/
def inCells (v : Nat × Nat) : Nat := v.1 * Config.cellsPerTick + v.2

/-- The size above which a forward step sets the slip flag: 32 ticks (R29). -/
def slipCells : Nat := 640

/-- A clock stepped forward to a target (R27, R29); a target at the limit saturates it (R22). -/
def SongClock.stepTo (c : SongClock) (target : Nat × Nat) : SongClock :=
  let size := inCells target - inCells (c.tick, c.phase)
  let c := { c with tick := target.1, phase := target.2, slip := c.slip || decide (slipCells < size) }
  if target.1 = maxTick then c.saturate else c

/-- The forward step of a mark, if the clock is earlier than its target, with the thresholds it passes (R27, R30). -/
def correctForward (m : Nat) (s : State) : State :=
  let target := markTarget m
  if earlier (s.clock.tick, s.clock.phase) target then
    let t := s.setClock (s.clock.stepTo target)
    if s.clock.tick < target.1 then reportAdvance s.clock.tick target.1 t else t
  else s

/-- The MARK slot emptied and the next mark point recomputed from the tick as it stands (R25, R28). -/
def settleMark (s : State) : State :=
  s.setClock { s.clock with markPending := false, nextMark := nextMarkAfter s.clock.tick }

/-- An accepted MARK at its end-of-frame (R27, R28). -/
def takeMark (m : Nat) (s : State) : State := settleMark (correctForward m s)

end Sys2Proof.Machine
end

