-- ==== Sys2Proof/Machine/Tally.lean ====
section
/-! DEFINITION. The Tally Unit: arithmetic of a closing frame, application, adoption, failure, and the JUDGE frame an
item becomes at its latch (R80, R81, R86, R92 to R108, R159). -/

namespace Sys2Proof.Machine

/-! ### Arithmetic (R98, R99) -/

/-- The weight of a grade or result, in sixteenths of the note value (R98). -/
def weight : JudgeResult → Nat
  | .grade .exact => 16
  | .grade .tight => 12
  | .grade .near => 6
  | .grade .wide => 1
  | .grade .miss => 0
  | .hold .ok => 16
  | .hold .ng => 0

/-- The gauge change of a grade or result (R98). -/
def gaugeChange : JudgeResult → Int
  | .grade .exact => 10
  | .grade .tight => 8
  | .grade .near => 2
  | .grade .wide => -10
  | .grade .miss => -50
  | .hold .ok => 5
  | .hold .ng => -50

/-- The greatest score (R92). -/
def maxScore : Nat := 99999999

/-- The greatest combo, max combo and own count (R92, R93). -/
def maxCount : Nat := 65535

/-- The greatest gauge (R92). -/
def maxGauge : Nat := 1000

/-- The points of a closing frame (R98). -/
def points (v : Nat) (r : JudgeResult) : Nat := v * weight r / 16

/-- The combo after a grade or result (R98, R99). -/
def comboAfter (r : JudgeResult) (combo : Nat) : Nat :=
  match r with
  | .grade .exact => min maxCount (combo + 1)
  | .grade .tight => min maxCount (combo + 1)
  | .grade .near => min maxCount (combo + 1)
  | .grade .wide => 0
  | .grade .miss => 0
  | .hold _ => combo

/-- The gauge after a grade or result (R99). -/
def gaugeAfter (r : JudgeResult) (gauge : Nat) : Nat := min maxGauge ((gauge : Int) + gaugeChange r).toNat

/-- The new tallies of a closing frame (R99). -/
def newTallies (v : Nat) (r : JudgeResult) (p : Replica) : Replica :=
  { score := min maxScore (p.score + points v r), combo := comboAfter r p.combo,
    maxCombo := max p.maxCombo (comboAfter r p.combo), gauge := gaugeAfter r p.gauge }

/-- A count one up, staying at its limit (R93). -/
def countUp (n : Nat) : Nat := min maxCount (n + 1)

/-- The own count of a grade or result one up (R93). -/
def OwnCounts.count (c : OwnCounts) : JudgeResult → OwnCounts
  | .grade .exact => { c with exact := countUp c.exact }
  | .grade .tight => { c with tight := countUp c.tight }
  | .grade .near => { c with near := countUp c.near }
  | .grade .wide => { c with wide := countUp c.wide }
  | .grade .miss => { c with miss := countUp c.miss }
  | .hold .ok => { c with ok := countUp c.ok }
  | .hold .ng => { c with ng := countUp c.ng }

/-! ### Application, adoption, failure (R101, R103, R104, R106) -/

/-- A gauge of 0 fails the player in PLAYING and LOST with the failure-enabled flag set (R106, R121). -/
def testFailure (s : State) : State :=
  if s.station.state.judges = true ∧ s.tally.failureEnabled = true ∧ s.tally.replica.gauge = 0 then enterFailed s else s

/-- The tallies of an own closing frame applied, and its grade or result counted (R93, R101). -/
def applyTallies (j : JudgeLatch) (s : State) : State :=
  match j.tallies with
  | some p => s.setTally { s.tally with replica := p, counts := s.tally.counts.count j.result }
  | none => s

/-- The replica after adoption of carried values (R104). -/
def adopted (c : Carried) (p : Replica) : Replica :=
  { score := c.score.toNat, combo := c.combo.toNat, maxCombo := max p.maxCombo c.combo.toNat, gauge := c.gauge.toNat }

/-- Adoption of a closing frame heard, by the same player in PLAYING, LOST or DONE, and the failure test behind it
(R103, R104, R106). -/
def adopt (sender : Nat) (c : Carried) (s : State) : State :=
  if s.station.state.adopts && playerOf s.tally.doubles sender == s.player then
    testFailure (s.setTally { s.tally with replica := adopted c s.tally.replica })
  else s

/-! ### The JUDGE frame of an item (R80, R86, R100, R159) -/

/-- A record holds a report from every expected partner (R80). -/
def ChordRecord.complete (r : ChordRecord) : Bool := r.expected.all fun a => r.reports.any fun p => p.1 == a

/-- The chord grade: the worst of the own grade and every partner grade (R80). -/
def ChordRecord.grade (r : ChordRecord) (own : Grade) : Grade :=
  r.reports.foldl (fun g p => worst g p.2) (r.own.getD own)

/-- The form and the grade of a TAP or HEAD item's frame: the first case of R80 that applies. -/
def closingDecision (e : NoteEntry) (own : Grade) (s : State) : JudgeForm × Grade :=
  if e.partners.isEmpty then (.closingSingle, own)
  else if e.chordClosed then (.orphan, own)
  else
    match findRecord e.due s with
    | some r => if r.complete then (.closingChord, r.grade own) else (.member, own)
    | none => (.member, own)

/-- Whether a frame of this form closes, and so carries tallies (R153). -/
def JudgeForm.closes : JudgeForm → Bool
  | .closingSingle => true
  | .closingChord => true
  | .tail => true
  | .forced => true
  | .member => false
  | .orphan => false

/-- The tallies an item carries, if its form closes (R100). -/
def carriedTallies (form : JudgeForm) (r : JudgeResult) (s : State) : Option Replica :=
  if form.closes then some (newTallies s.tally.noteValue r s.tally.replica) else none

/-- Tallies at their widths on the wire (R153). -/
def Replica.carried (p : Replica) : Carried :=
  { score := BitVec.ofNat 32 p.score, combo := BitVec.ofNat 16 p.combo, gauge := BitVec.ofNat 16 p.gauge }

/-- The offset a head result carries: its own, or 0 for a lapse (R62, R159). -/
def HeadResult.offset : HeadResult → Int
  | .struck o _ => o
  | .lapse => 0

/-- Whether a head lapsed. -/
def HeadResult.lapsed : HeadResult → Bool
  | .struck _ _ => false
  | .lapse => true

/-- The head report in a TAP or HEAD frame (R159): the grade is the frame's, offset and lapse flag the own head's. -/
def headReport (sender : BitVec 5) (kind : HeadKind) (due : Nat) (g : Grade) (h : HeadResult) : HeadReport :=
  { sender := sender, kind := kind, due := BitVec.ofNat 24 due, grade := g, lapse := h.lapsed,
    offset := BitVec.ofInt 16 h.offset }

/-- The frame of a TAP or HEAD item in a form (R159). -/
def headFormFrame (form : JudgeForm) (r : HeadReport) (tallies : Option Replica) : Frame :=
  match form, tallies with
  | .orphan, _ => .orphan r
  | _, some p => .closure (.head r p.carried)
  | _, none => .member r

/-- A TAP or HEAD item latched (R80, R100, R159). -/
def latchHead (kind : HeadKind) (item : ReportItem) (s : State) : Option Latched :=
  match findEntry item.due s with
  | some e =>
    match e.head with
    | some h =>
      let (form, g) := closingDecision e h.grade s
      let tallies := carriedTallies form (.grade g) s
      some { content := .judge { item := item, form := form, result := .grade g, tallies := tallies, evicted := false },
             payload := (headFormFrame form (headReport s.headerAddress kind item.due g h) tallies).payload }
    | none => none
  | none => none

/-- A TAIL item latched (R100, R159). -/
def latchTail (item : ReportItem) (s : State) : Option Latched :=
  match findEntry item.due s with
  | some e =>
    match e.tail with
    | some r =>
      let p := newTallies s.tally.noteValue (.hold r) s.tally.replica
      some { content := .judge { item := item, form := .tail, result := .hold r, tallies := some p, evicted := false },
             payload := (Frame.tail { sender := s.headerAddress, due := BitVec.ofNat 24 item.due, result := r,
                                      carried := p.carried }).payload }
    | none => none
  | none => none

/-- A forced-close item latched: FORCED, MISS (R86, R100, R159). -/
def latchForced (item : ReportItem) (s : State) : Option Latched :=
  let p := newTallies s.tally.noteValue (.grade .miss) s.tally.replica
  some { content := .judge { item := item, form := .forced, result := .grade .miss, tallies := some p, evicted := false },
         payload := (Frame.closure (.forced s.headerAddress (BitVec.ofNat 24 item.due) p.carried)).payload }

/-- An item latched, by its kind (R96, R97). -/
def latchItem (item : ReportItem) (s : State) : Option Latched :=
  match item.kind with
  | .tap => latchHead .tap item s
  | .head => latchHead .head item s
  | .tail => latchTail item s
  | .forced => latchForced item s

/-! ### The end-of-frame of an own JUDGE frame (R46, R81, R86, R97) -/

/-- The Note Queue at the end-of-frame of an own report (R46). -/
def entryReported (item : ReportItem) (s : State) : State :=
  match item.kind with
  | .tap => removeEntry item.due s
  | .head => updateEntry item.due (fun e => { e with headSent := true }) s
  | .tail => removeEntry item.due s
  | .forced => s

/-- The Chord Table after an own member report: own-sent, and the forced close at once if its point has passed
(R81, R85). -/
def memberSent (due : Nat) (s : State) : State :=
  let t := updateRecord due (fun r => { r with ownSent := true }) s
  if s.station.state.judges && decide (forcedFall s.judge.w due ≤ s.adjClock) then takeForced due t else t

/-- The record of a chord this station has closed goes (R81). Had it a forced close pending, which takes a note loaded
again with a due already reported, that item goes with it, so that the report list keeps to R96
(notes/assumptions/35.md, DESIGN CHOICE). -/
def closeOwnRecord (due : Nat) (s : State) : State :=
  match findRecord due s with
  | some r => if r.forcedPending then removeForced due (removeRecord due s) else removeRecord due s
  | none => s

/-- The Chord Table at the end-of-frame of an own JUDGE frame, by its form (R81, R86); a FORCED frame whose record was
evicted while it was in flight finds none to remove (R97). -/
def chordReported (j : JudgeLatch) (s : State) : State :=
  match j.form with
  | .closingChord => signalFlash j.result (closeOwnRecord j.item.due s)
  | .member => memberSent j.item.due s
  | .forced => signalFlash (.grade .miss) (if j.evicted then s else removeRecord j.item.due s)
  | .closingSingle => s
  | .orphan => s
  | .tail => s

/-- An own JUDGE frame completed: tallies, report list, Note Queue, Chord Table, then the failure test (R101, R106). -/
def judgeCompleted (j : JudgeLatch) (s : State) : State :=
  let s := applyTallies j s
  let s := s.setReports s.reports.tail
  let s := entryReported j.item s
  let s := chordReported j s
  if j.form.closes then testFailure s else s

end Sys2Proof.Machine
end

