-- ==== Sys2Proof/Machine/Line.lean ====
section
/-! DEFINITION. The Line Controller as a sender: gaps, the transmit selection, arbitration, the payload latch, the end of
an own frame, aborts and line events; and the STATUS pages (R25, R26, R130 to R147, R166, R167). -/

namespace Sys2Proof.Machine

/-! ### Gaps and line states (R133) -/

/-- The idle gap (R133). -/
def idleGap : Nat := 10

/-- The idle gap and the yield gap together (R133). -/
def yieldGap : Nat := 16

/-- The gap the station needs before it may start (R133). -/
def LineController.gap (l : LineController) : Nat := if l.lastSender then yieldGap else idleGap

/-- The line state, high count and frame registers with no frame on the line (R142, R145). -/
def LineController.released (l : LineController) (high : Nat) (last : Bool) : LineController :=
  { l with state := .receiving, highCount := high, lastSender := last, assembly := none, decision := none,
           inFlight := none }

/-- A line state that takes LINE_FREE when the high count reaches 10, with no frame followed (R133, R147). -/
def LineController.awaitsGap (l : LineController) : Bool :=
  (l.state == .receiving || l.state == .lineBreak) && !l.busyWithFrame

/-- The high count at `n`, and LINE_FREE when it has reached the idle gap (R133). -/
def LineController.countHigh (n : Nat) (l : LineController) : LineController :=
  let n := min yieldGap n
  { l with highCount := n, state := if l.awaitsGap && decide (idleGap ≤ n) then .lineFree else l.state }

/-- Whether the Line Controller follows the line at all: in every state but STARTUP (R111, R130). -/
def State.followsLine (s : State) : Bool := s.station.state != .startup

/-- IDLE_GAP (R133): the high count reaches 10. -/
def execIdleGap (s : State) : Host.Outcome State Fault Refusal :=
  .next (whenPowered s fun s =>
    if s.followsLine && s.line.awaitsGap then s.setLine (s.line.countHigh (max idleGap s.line.highCount)) else s)

/-! ### Starting a frame (R134, R135, R136) -/

/-- The transmit selection: MARK at a tick boundary of an unsaturated clock, else the report list, else the STATUS slot
(R135). -/
def selectSource (boundary : Bool) (s : State) : Option Source :=
  if s.clock.markPending && s.clock.running && !s.clock.saturated && boundary && decide (s.clock.phase = 0) then
    some .mark
  else if !s.reports.isEmpty then some .report
  else if s.line.statusSlot.isSome then some .status
  else none

/-- The class of a source's frames (R135). -/
def Source.cls : Source → BitVec 3
  | .mark => 0
  | .report => 2
  | .status => 7

/-- The header a source's frame takes (R135). -/
def sourceHeader (src : Source) (s : State) : Byte := headerOf src.cls s.headerAddress

/-- A frame of the station from its start edge to the end of its header (R134, R136): still driving, CONTENDING; or
arbitration lost, following the winner with the header bits sampled. -/
def contend (src : Source) (rivals : List Byte) (s : State) : State :=
  let own := sourceHeader src s
  let (won, bits) := arbitrate own rivals
  if won then
    s.setLine { s.line with
      state := .contending, highCount := 0, assembly := none, decision := none,
      inFlight := some { source := src, header := own, startTick := s.clock.tick, latched := none, mismatch := false } }
  else
    s.setLine { s.line with
      state := .receiving, highCount := 0, assembly := some { bits := bits, cells := 12 }, decision := none,
      inFlight := none }

/-- LINE_FREE, or RECEIVING between frames: the line states in which a falling edge of another station begins an
assembly (R134, R147). -/
def LineController.betweenFrames (l : LineController) : Bool :=
  (l.state == .lineFree || l.state == .receiving) && !l.busyWithFrame

/-- The assembly of a frame another station begins: the line state is RECEIVING (R134). -/
def beginAssembly (s : State) : State :=
  s.setLine { s.line with state := .receiving, highCount := 0, assembly := some { bits := [], cells := 0 } }

/-- The high count at a start instant: at least what was counted, at most 16 (R133). -/
def quietAt (quiet : Nat) (l : LineController) : Nat := min yieldGap (max l.highCount quiet)

/-- A falling edge in LINE_BREAK: the high count goes to 0 and no assembly begins (R130, R134). -/
def edgeInBreak (s : State) : State := s.setLine { s.line with highCount := 0 }

/-- The start edge of another station's frame at a station that does not start one: an assembly begins while no frame is
followed, whether or not the own gap has passed and whatever the station has to send (R134). -/
def followStart (s : State) : State :=
  if s.followsLine then
    if s.line.state = .lineBreak then edgeInBreak s else if s.line.betweenFrames then beginAssembly s else s
  else s

/-- The source the station starts with at an instant, if all the conditions of R134 hold: LINE_FREE, the gap passed, the
input high, a source ready; a station in STARTUP or FAULT sends nothing (R147). -/
def startSource (i : StartInstant) (s : State) : Option Source :=
  if s.station.state.examines && s.line.state == .lineFree && decide (s.line.gap ≤ quietAt i.quiet s.line) && i.inputHigh
  then selectSource i.boundary s else none

/-- Another transmitter's start edge falls at an instant: the input reads low, or one fell within the sensing delay
(R134). -/
def othersStart (i : StartInstant) : Bool := !i.inputHigh || !i.rivals.isEmpty

/-- FRAME_START (R134, R135, R136): a frame starts on the line. The station contends if the conditions hold for it;
otherwise it follows the frame another station begins. -/
def execFrameStart (i : StartInstant) (s : State) : Host.Outcome State Fault Refusal :=
  .next (whenPowered s fun s =>
    match startSource i s with
    | some src => contend src i.rivals s
    | none => if othersStart i then followStart s else s)

/-! ### STATUS pages (R18, R108, R167, R177) -/

/-- The code of a station state (R155). -/
def StationState.code : StationState → Nat
  | .startup => 0
  | .idle => 1
  | .playing => 2
  | .lost => 3
  | .failed => 4
  | .done => 5
  | .fault => 6

/-- The code of a zone condition (R155). -/
def ZoneCondition.code : ZoneCondition → BitVec 2
  | .healthy => 0
  | .faulty => 1
  | .off => 2

/-- The code of a refusal reason (R155). -/
def RefusalReason.code : RefusalReason → Nat
  | .noRefusal => 0
  | .full => 1
  | .stale => 2
  | .duplicate => 3
  | .overlap => 4
  | .malformed => 5
  | .wrongState => 6

/-- A number in one byte. -/
def byteOf (n : Nat) : Byte := BitVec.ofNat 8 n

/-- A number in two bytes. -/
def word16 (n : Nat) : List Byte := be16 (BitVec.ofNat 16 n)

/-- Zone conditions in one byte, zone 0 in the least significant pair (R167). -/
def zoneByte (z : Quad ZoneRecord) : Byte :=
  z.q3.condition.code ++ z.q2.condition.code ++ z.q1.condition.code ++ z.q0.condition.code

/-- The lamp flags: open flags in bits 0..3, short latches in bits 4..7, red first (R167, R177). -/
def lampByte (c : Quad Channel) : Byte :=
  BitVec.ofBool c.q3.shortLatch ++ BitVec.ofBool c.q2.shortLatch ++ BitVec.ofBool c.q1.shortLatch ++
    BitVec.ofBool c.q0.shortLatch ++ BitVec.ofBool c.q3.openFlag ++ BitVec.ofBool c.q2.openFlag ++
    BitVec.ofBool c.q1.openFlag ++ BitVec.ofBool c.q0.openFlag

/-- The settings and clock flags: bit 0 defaulted, bit 1 slip (R167). -/
def flagByte (s : State) : Byte := 0#6 ++ BitVec.ofBool s.clock.slip ++ BitVec.ofBool s.settings.defaulted

/-- The bytes after the page byte of a STATUS page, assembled from the blocks as they stand (R167). -/
def statusFields (page : Fin 4) (s : State) : List Byte :=
  match page with
  | 0 =>
    [byteOf s.station.state.code, zoneByte s.sense.zones, lampByte s.lamp.channels, flagByte s,
      byteOf s.queue.entries.length, byteOf s.reports.length, byteOf s.queue.staleCount,
      byteOf s.queue.lastRefusal.code] ++ be24 (BitVec.ofNat 24 s.clock.tick)
  | 1 =>
    let c := s.tally.counts
    word16 c.exact ++ word16 c.tight ++ word16 c.near ++ word16 c.wide ++ word16 c.miss ++ word16 c.ok ++ word16 c.ng
  | 2 =>
    let p := s.tally.replica
    be32 (BitVec.ofNat 32 p.score) ++ word16 p.combo ++ word16 p.maxCombo ++ word16 p.gauge ++ [byteOf s.player]
  | 3 =>
    let z := s.sense.zones
    word16 z.q0.raw ++ word16 z.q1.raw ++ word16 z.q2.raw ++ word16 z.q3.raw ++ word16 s.sense.load

/-! ### The payload latch (R137) -/

/-- The payload a frame of a source latches, from the station as it stands (R25, R97, R137). -/
def latchSource (f : InFlight) (s : State) : Option Latched :=
  match f.source with
  | .mark =>
    some { content := .mark,
           payload := (Frame.mark { sender := s.headerAddress, tick := BitVec.ofNat 24 f.startTick }).payload }
  | .report =>
    match s.reports with
    | item :: _ => latchItem item s
    | [] => none
  | .status =>
    match s.line.statusSlot with
    | some page =>
      some { content := .status,
             payload := (Frame.status { sender := s.headerAddress, page := page, fields := statusFields page s }).payload }
    | none => none

/-- PAYLOAD_LATCH (R136, R137): the header ends with the station still driving; SENDING, its payload fixed. -/
def execPayloadLatch (s : State) : Host.Outcome State Fault Refusal :=
  .next (whenPowered s fun s =>
    match s.line.state, s.line.inFlight with
    | .contending, some f =>
      match latchSource f s with
      | some l => s.setLine { s.line with state := .sending, inFlight := some { f with latched := some l } }
      | none => s
    | _, _ => s)

/-! ### The end of an own frame (R140, R142, R146) -/

/-- The line at the end-of-frame of an own frame (R133, R142). -/
def ownFrameEnded (s : State) : State := s.setLine (s.line.released 0 true)

/-- Station Control is told of an own frame that was acknowledged (R117, R119, R142). -/
def tellAcknowledged (acked : Bool) (s : State) : State := if acked then heardFrame s else s

/-- The mismatch noted in the frame in flight (R146). -/
def noteMismatch (mismatch : Bool) (f : InFlight) : InFlight := { f with mismatch := f.mismatch || mismatch }

/-- An own frame at its end: a noted mismatch enters FAULT at the acknowledge cell (R146); otherwise the end-of-frame,
its source completed as `complete` says (R142). -/
def endOwnFrame (src : Source) (ending : OwnEnd) (complete : Latch → State → State) (s : State) : State :=
  match s.line.state, s.line.inFlight with
  | .sending, some f =>
    if f.source = src then
      match f.latched with
      | some l =>
        if (noteMismatch ending.mismatch f).mismatch then enterFault .duplicate s
        else tellAcknowledged ending.acked (complete l.content (ownFrameEnded s))
      | none => s
    else s
  | _, _ => s

/-- MARK_SENT (R25). -/
def execMarkSent (ending : OwnEnd) (s : State) : Host.Outcome State Fault Refusal :=
  .next (whenPowered s (endOwnFrame .mark ending fun _ s => settleMark s))

/-- A latched JUDGE frame completed (R101, R142). -/
def completeReport (l : Latch) (s : State) : State :=
  match l with
  | .judge j => judgeCompleted j s
  | .mark => s
  | .status => s

/-- JUDGE_SENT (R142). -/
def execJudgeSent (ending : OwnEnd) (s : State) : Host.Outcome State Fault Refusal :=
  .next (whenPowered s (endOwnFrame .report ending completeReport))

/-- STATUS_SENT (R166). -/
def execStatusSent (ending : OwnEnd) (s : State) : Host.Outcome State Fault Refusal :=
  .next (whenPowered s (endOwnFrame .status ending fun _ s => s.setLine { s.line with statusSlot := none }))

/-! ### Aborts and line events (R133, R134, R143, R144, R145) -/

/-- An abort: the frame in flight or followed ends with none of its effects, the last-sender flag is cleared (R145). -/
def abortFrame (high : Nat) (s : State) : State :=
  let s := dropEvicted s
  let s := s.setQueue { s.queue with pendingInsertion := none }
  s.setLine (s.line.released high false)

/-- RUNT (R134): the low that began an assembly rises within 3 cells; the assembly is dropped without effect, and the high
count counts from the rising edge. -/
def execRunt (s : State) : Host.Outcome State Fault Refusal :=
  .next (whenPowered s fun s =>
    if s.followsLine then
      match s.line.state with
      | .lineBreak => edgeInBreak s
      | .lineFree => s.setLine { s.line with state := .receiving, highCount := 0 }
      | .receiving =>
        if s.line.decision.isNone && s.line.assembly.all (fun a => a.cells == 0) then
          s.setLine { s.line with highCount := 0, assembly := none }
        else s
      | .contending => s
      | .sending => s
    else s)

/-- LONG_LOW (R144): the frame in flight or followed is aborted, or the assembly the low itself began. -/
def execLongLow (s : State) : Host.Outcome State Fault Refusal :=
  .next (whenPowered s fun s =>
    if s.followsLine then
      match s.line.state with
      | .lineBreak => edgeInBreak s
      | _ => abortFrame 0 s
    else s)

/-- The high count at the instant of a timeout: two cells and part of a third since the last rising edge (R131, R133,
R143; notes/assumptions/15.md). -/
def timeoutHighCount : Nat := 2

/-- FRAME_TIMEOUT (R143): no falling edge for more than 2 cells past the one expected; the frame is aborted, at a station
that follows it as at the one that sends it (R145). A frame another station began with no FRAME_START sent for it counts as
begun by this command (notes/assumptions/30.md). In LINE_BREAK no frame is followed (R130). -/
def execFrameTimeout (s : State) : Host.Outcome State Fault Refusal :=
  .next (whenPowered s fun s =>
    if s.followsLine && s.line.state != .lineBreak then abortFrame timeoutHighCount s else s)

/-- BREAK (R144): at the 80th cell of low the line is in LINE_BREAK, whatever was on it (R145). -/
def execLineBreak (s : State) : Host.Outcome State Fault Refusal :=
  .next (whenPowered s fun s =>
    if s.followsLine then
      let t := abortFrame 0 s
      t.setLine { t.line with state := .lineBreak }
    else s)

/-- LINE_BREAK_FALLING_EDGE (R130). -/
def execLineBreakFallingEdge (s : State) : Host.Outcome State Fault Refusal :=
  .next (whenPowered s fun s => if s.followsLine && s.line.state == .lineBreak then edgeInBreak s else s)

end Sys2Proof.Machine
end

