-- ==== Sys2Proof/Machine/Notes.lean ====
section
/-! DEFINITION. The Note Queue: the six tests of a NOTE, insertion, and the purge at START (R33 to R49). -/

namespace Sys2Proof.Machine

/-- The entries the queue has room for (R35). -/
def queueCapacity : Nat := 32

/-- A tick lies in the span of an entry: after its due, up to and including its hold's last tick (R36). -/
def NoteEntry.spans (e : NoteEntry) (tick : Nat) : Bool :=
  match e.holdEndTime with
  | some t => decide (e.due < tick) && decide (tick ≤ t)
  | none => false

/-- Two notes overlap: the due of one lies in the span of the other (R36, R41). -/
def overlap (a b : NoteEntry) : Bool := a.spans b.due || b.spans a.due

/-- The kind and the partners a NOTE frame carries, if its kind code and partner count name a layout (R39, R154). -/
def noteFields (f : NoteFrame) : Option (NoteKind × List Nat) :=
  if 3 < f.count.toNat then none
  else
    match f.kind.toNat, f.body with
    | 0, ps => some (.tap, ps.map BitVec.toNat)
    | 1, h :: l :: ps => some (.hold (h ++ l : BitVec 16).toNat, ps.map BitVec.toNat)
    | _, _ => none

/-- No address of a list comes twice. -/
def distinct : List Nat → Bool
  | [] => true
  | a :: as => !as.contains a && distinct as

/-- The partners of a note are valid stations, none of them the station itself, none twice (R39). -/
def validPartners (own : Nat) (partners : List Nat) : Bool :=
  partners.all (fun a => validStation a && a != own) && distinct partners

/-- A HOLD has a hold length of at least 1 (R39). -/
def NoteKind.lengthOk : NoteKind → Bool
  | .tap => true
  | .hold n => n != 0

/-- The entry a NOTE frame makes, WAITING, unless the frame is malformed (R34, R39). -/
def noteEntry (own : Nat) (f : NoteFrame) : Option NoteEntry :=
  match noteFields f with
  | some (kind, partners) =>
    if kind.lengthOk && validPartners own partners then
      some { due := f.due.toNat, kind := kind, partners := partners, state := .waiting, head := none, headSent := false,
             tail := none, chordClosed := false }
    else none
  | none => none

/-- The lapse threshold of a due has been passed by an adjusted clock (R40, R45). -/
def pastLapse (w due adj : Nat) : Bool := decide (due + w + 4 < adj)

/-- A note is stale against a song at an adjusted clock (R40, R45). -/
def staleNote (w endTime due adj : Nat) : Bool := pastLapse w due adj || decide (endTime < due)

/-- The entries held, a pending insertion included (R42). -/
def NoteQueue.held (q : NoteQueue) : Nat := q.entries.length + (if q.pendingInsertion.isSome then 1 else 0)

/-- The six tests of R38 in order, against an adjusted clock: the entry the frame makes, or the reason of the first test
that fails. -/
def testNote (f : NoteFrame) (adj : Nat) (s : State) : Except RefusalReason NoteEntry :=
  if !s.station.state.takesNotes then .error .wrongState
  else
    match noteEntry s.address f with
    | none => .error .malformed
    | some e =>
      if s.station.state.judges && staleNote s.judge.w s.station.endTime e.due adj then .error .stale
      else if s.queue.entries.any (fun x => x.due == e.due) then .error .duplicate
      else if s.queue.entries.any (overlap e) then .error .overlap
      else if queueCapacity ≤ s.queue.held then .error .full
      else .ok e

/-- An entry put at the place its due gives it (R35). -/
def insertEntry (e : NoteEntry) : List NoteEntry → List NoteEntry
  | [] => [e]
  | x :: xs => if e.due ≤ x.due then e :: x :: xs else x :: insertEntry e xs

/-- The pending insertion becomes an entry (R43). -/
def takeInsertion (s : State) : State :=
  match s.queue.pendingInsertion with
  | some e => s.setQueue { s.queue with entries := insertEntry e s.queue.entries, pendingInsertion := none }
  | none => s

/-- The stale count one up, staying at 255 (R44). -/
def staleUp (n : Nat) : Nat := min 255 (n + 1)

/-- A refusal recorded (R38, R44). -/
def recordRefusal (r : RefusalReason) (s : State) : State :=
  s.setQueue { s.queue with lastRefusal := r, staleCount := if r = .stale then staleUp s.queue.staleCount else s.queue.staleCount }

/-- The queue at START: its counts cleared, then the stale preload purged and counted (R44, R45). -/
def purged (w endTime adjStart : Nat) (q : NoteQueue) : NoteQueue :=
  let kept := q.entries.filter fun e => !staleNote w endTime e.due adjStart
  { q with entries := kept, staleCount := min 255 (q.entries.length - kept.length), lastRefusal := .noRefusal }

end Sys2Proof.Machine
end

