-- ==== Sys2Proof/Machine/Sense.lean ====
section
/-! DEFINITION. The Sense Unit: a sample in four stages, zone faults and recoveries, load, step detector, baseline
tracking, and the end of STARTUP (R1 to R18, R111). -/

namespace Sys2Proof.Machine

/-! ### Zones (R3, R5, R6, R7, R9) -/

/-- The count at which a zone fails or recovers (R5, R6). -/
def zoneCount : Nat := 200

/-- A rail reading: 0 or 4095 (R3). -/
def atRail (raw : Nat) : Bool := raw == 0 || raw == 4095

/-- A HEALTHY zone whose rail count has reached 200 becomes FAULTY (R5). -/
def ZoneRecord.reachFault (z : ZoneRecord) : ZoneRecord :=
  if z.condition = .healthy ∧ zoneCount ≤ z.railCount then
    { z with condition := .faulty, railCount := 0, insideCount := 0 }
  else z

/-- A FAULTY zone whose inside count has reached 200 becomes HEALTHY at its present reading (R6). -/
def ZoneRecord.reachRecovery (z : ZoneRecord) : ZoneRecord :=
  if z.condition = .faulty ∧ zoneCount ≤ z.insideCount then
    { z with condition := .healthy, baseline := z.raw, railCount := 0, insideCount := 0 }
  else z

/-- Stage 1 of a sample at a zone: its reading stored, its condition and counts brought up to date (R2, R5, R6). -/
def ZoneRecord.takeReading (raw : Nat) (z : ZoneRecord) : ZoneRecord :=
  let z := { z with raw := raw }
  match z.condition with
  | .healthy => ZoneRecord.reachFault { z with railCount := if atRail raw then z.railCount + 1 else 0 }
  | .faulty => ZoneRecord.reachRecovery { z with insideCount := if atRail raw then 0 else z.insideCount + 1 }
  | .off => z

/-- The first sample after a reset sets the baseline (R8). -/
def ZoneRecord.rebase (z : ZoneRecord) : ZoneRecord := { z with baseline := z.raw }

/-- A zone's contribution to the load (R7). -/
def ZoneRecord.contribution (z : ZoneRecord) : Nat :=
  match z.condition with
  | .healthy => z.raw - z.baseline
  | .faulty => 0
  | .off => 0

/-- The sum of the four contributions (R7). -/
def loadOf (zones : Quad ZoneRecord) : Nat :=
  zones.q0.contribution + zones.q1.contribution + zones.q2.contribution + zones.q3.contribution

/-- One step of tracking: a HEALTHY baseline moves one count toward its reading (R9). -/
def ZoneRecord.track (z : ZoneRecord) : ZoneRecord :=
  match z.condition with
  | .healthy =>
    if z.baseline < z.raw then { z with baseline := z.baseline + 1 }
    else if z.raw < z.baseline then { z with baseline := z.baseline - 1 }
    else z
  | .faulty => z
  | .off => z

/-! ### Step detector (R10 to R15) -/

/-- The effective press threshold (R10). -/
def Settings.effectivePress (c : Settings) : Nat := if c.press = 0 then 1 else c.press

/-- The effective release threshold (R10). -/
def Settings.effectiveRelease (c : Settings) : Nat :=
  if c.release < c.effectivePress then c.release else c.effectivePress / 2

/-- The detector's state replaced. -/
def setDetector (d : Detector) (s : State) : State := s.setSense { s.sense with detector := d }

/-- Whether the current load is at or above the effective press threshold (R12). -/
def State.loadPresses (s : State) : Bool := decide (s.settings.working.effectivePress ≤ s.sense.load)

/-- Whether the current load is below the effective release threshold (R13). -/
def State.loadReleases (s : State) : Bool := decide (s.sense.load < s.settings.working.effectiveRelease)

/-- A press confirmed: PRESSED, and the event emitted with its candidate (R12, R15). -/
def confirmPress (s : State) : State :=
  match s.sense.detector with
  | .pressing candidate => emitPress candidate (setDetector .pressed s)
  | _ => s

/-- A release confirmed: RELEASED, and the event emitted with its candidate (R13, R15). -/
def confirmRelease (s : State) : State :=
  match s.sense.detector with
  | .releasing candidate .two => emitRelease candidate (setDetector .released s)
  | _ => s

/-- Stage 3: at most one transition of the detector against the current load (R12, R13); the stamp is the clock's tick
(R14). -/
def detect (s : State) : State :=
  match s.sense.detector with
  | .released => if s.loadPresses then setDetector (.pressing s.clock.tick) s else s
  | .pressing _ => if s.loadPresses then confirmPress s else setDetector .released s
  | .pressed => if s.loadReleases then setDetector (.releasing s.clock.tick .one) s else s
  | .releasing c .one => if s.loadReleases then setDetector (.releasing c .two) s else setDetector .pressed s
  | .releasing _ .two => if s.loadReleases then confirmRelease s else setDetector .pressed s

/-! ### Baseline tracking (R9) -/

/-- A step of tracking: the drift count back to 0, every HEALTHY baseline one count toward its reading (R9). -/
def trackBaselines (s : State) : State :=
  s.setSense { s.sense with drift := 0, zones := s.sense.zones.map ZoneRecord.track }

/-- The drift count would reach 16 at its next increment (R9). -/
def State.driftFull (s : State) : Bool := decide (15 ≤ s.sense.drift)

/-- Stage 4: baseline tracking by the detector's state (R9). -/
def baselineStage (s : State) : State :=
  match s.sense.detector with
  | .released => if s.driftFull then trackBaselines s else s.setSense { s.sense with drift := s.sense.drift + 1 }
  | _ => s.setSense { s.sense with drift := 0 }

/-! ### The end of STARTUP (R16, R111) -/

/-- The samples of STARTUP (R16). -/
def startupSamples : Nat := 32

/-- STARTUP's 32 samples have been taken (R111). -/
def State.startupOver (s : State) : Bool := s.station.state = .startup && decide (startupSamples ≤ s.sense.samples)

/-- The end of STARTUP: IDLE for a panel of 0..8, FAULT with cause STRAP for 9..15 (R111, R123). -/
def endStartup (s : State) : State :=
  if s.straps.panel.toNat ≤ 8 then setState .idle none s else enterFault .strap s

/-- STARTUP_END (R111). -/
def execStartupEnd (s : State) : Host.Outcome State Fault Refusal :=
  .next (whenPowered s fun s => if s.startupOver then endStartup s else s)

/-! ### The sample (R2) -/

/-- Stages 1 and 2: readings, conditions, baselines at the first sample, load (R2, R5 to R8). -/
def readZones (raws : Quad (BitVec 12)) (s : State) : State :=
  let zones := Quad.zip (fun r z => ZoneRecord.takeReading r.toNat z) raws s.sense.zones
  let zones := if s.sense.samples = 0 then zones.map ZoneRecord.rebase else zones
  s.setSense { s.sense with zones := zones, load := loadOf zones, sampleTimer := some 0 }

/-- The STARTUP sample count one up, staying at 32 (R16). -/
def countSample (s : State) : State :=
  s.setSense { s.sense with samples := min startupSamples (s.sense.samples + 1) }

/-- Stages 1 to 3 of a sample; stage 3 does not run in STARTUP (R16). -/
def sampleDetected (raws : Quad (BitVec 12)) (s : State) : State :=
  if s.station.state = .startup then readZones raws s else detect (readZones raws s)

/-- A sample in four stages (R2). Stage 4 does not run at the first sample (R9). -/
def takeSample (raws : Quad (BitVec 12)) (s : State) : State :=
  countSample (if s.sense.samples = 0 then sampleDetected raws s else baselineStage (sampleDetected raws s))

/-- The state a sample finds: the sample after the 32nd finds STARTUP ended (R16, notes/assumptions/19.md). -/
def beforeSample (s : State) : State := if s.startupOver then endStartup s else s

/-- The sample on these readings taken, while the sample timer runs (R1), if it brings `event`; else nothing happens. -/
def sampleBringing (event : State → Bool) (raws : Quad (BitVec 12)) (s : State) : State :=
  if s.loaded && event (beforeSample s) then takeSample raws (beforeSample s) else s

/-- SAMPLE (R1, R2). -/
def execSample (raws : Quad (BitVec 12)) (s : State) : Host.Outcome State Fault Refusal :=
  .next (whenPowered s (sampleBringing (fun _ => true) raws))

/-! ### A sample sent under the name of the event it brings (notes/assumptions/3.md)

R12, R13 and R9 put these events at the very sample whose readings complete them, so each command is that sample, whole.
The table gives it no operand: it is the sample that reads the zones as they were last read, and SAMPLE gives any other
readings. Where such a sample would not bring the event, nothing happens. -/

/-- The readings of a sample that finds every zone as it was last read (R3). -/
def State.readings (s : State) : Quad (BitVec 12) := s.sense.zones.map fun z => BitVec.ofNat 12 z.raw

/-- The sample on the readings held taken, if it brings `event`; else nothing happens. -/
def heldSampleBringing (event : Quad (BitVec 12) → State → Bool) (s : State) : State :=
  sampleBringing (event s.readings) s.readings s

/-- Stage 3 of the sample on these readings confirms a press: it is the second at or above the press threshold (R12). -/
def confirmsPress (raws : Quad (BitVec 12)) (s : State) : Bool :=
  match s.sense.detector with
  | .pressing _ => s.station.state != .startup && (readZones raws s).loadPresses
  | _ => false

/-- Stage 3 of the sample on these readings confirms a release: it is the third below the release threshold (R13). -/
def confirmsRelease (raws : Quad (BitVec 12)) (s : State) : Bool :=
  match s.sense.detector with
  | .releasing _ .two => s.station.state != .startup && (readZones raws s).loadReleases
  | _ => false

/-- Stage 4 of the sample on these readings would bring the drift count to 16 (R9). -/
def movesBaselines (raws : Quad (BitVec 12)) (s : State) : Bool :=
  s.sense.samples != 0 && (sampleDetected raws s).sense.detector == .released && s.driftFull

/-- BASELINE_TRACKING (R9): the sample at which the drift count would reach 16. -/
def execBaselineTracking (s : State) : Host.Outcome State Fault Refusal :=
  .next (whenPowered s (heldSampleBringing movesBaselines))

/-- PRESS (R12, R15, R53 to R58): the sample that confirms a press. -/
def execPress (s : State) : Host.Outcome State Fault Refusal :=
  .next (whenPowered s (heldSampleBringing confirmsPress))

/-- RELEASE (R13, R15, R59): the sample that confirms a release. -/
def execRelease (s : State) : Host.Outcome State Fault Refusal :=
  .next (whenPowered s (heldSampleBringing confirmsRelease))

/-! ### A zone's events, as commands of their own (notes/assumptions/3.md) -/

/-- ZONE_FAULT (R5): a zone's rail count has reached 200. -/
def execZoneFault (zone : Fin 4) (s : State) : Host.Outcome State Fault Refusal :=
  .next (whenPowered s fun s => s.setSense { s.sense with zones := s.sense.zones.modify zone ZoneRecord.reachFault })

/-- ZONE_RECOVERY (R6): a zone's inside count has reached 200. -/
def execZoneRecovery (zone : Fin 4) (s : State) : Host.Outcome State Fault Refusal :=
  .next (whenPowered s fun s => s.setSense { s.sense with zones := s.sense.zones.modify zone ZoneRecord.reachRecovery })

end Sys2Proof.Machine
end

