-- ==== Sys2Proof/Machine/Song.lean ====
section
/-! DEFINITION. Station Control over a song: the values START brings, START, STOP, the silence timeout (R112 to R122). -/

namespace Sys2Proof.Machine

/-! ### The values of START (R114, R115) -/

/-- The upward pass of the window clamp (R114). -/
def clampUp (e t n w : Nat) : Nat × Nat × Nat × Nat :=
  let e := max 4 e
  let t := max (e + 4) t
  let n := max (t + 4) n
  let w := max (n + 4) w
  (e, t, n, w)

/-- The downward pass of the window clamp (R114). -/
def clampDown (e t n w : Nat) : Nat × Nat × Nat × Nat :=
  let w := min 800 w
  let n := min (w - 4) n
  let t := min (n - 4) t
  let e := min (t - 4) e
  (e, t, n, w)

/-- The windows and the hold grace of a START (R114, R115): bytes in units of 4 ticks, the windows clamped. -/
def startParams (f : StartFrame) : JudgeParams :=
  let (e, t, n, w) := clampUp (4 * f.e.toNat) (4 * f.t.toNat) (4 * f.n.toNat) (4 * f.w.toNat)
  let (e, t, n, w) := clampDown e t n w
  { e := e, t := t, n := n, w := w, g := 4 * f.grace.toNat }

/-- The note value of a START (R115). -/
def startNoteValue (f : StartFrame) : Nat := clampNat 1 10000 f.noteValue.toNat

/-- The initial gauge of a START (R92, R115). -/
def startGauge (f : StartFrame) : Nat := clampNat 1 maxGauge (5 * f.gauge.toNat)

/-- The Tally Unit at START (R92, R93, R94). -/
def startTally (f : StartFrame) : TallyUnit :=
  { replica := { score := 0, combo := 0, maxCombo := 0, gauge := startGauge f }, doubles := f.flags.getLsbD 0,
    failureEnabled := f.flags.getLsbD 1, counts := .zero, noteValue := startNoteValue f }

/-- The Song Clock at START (R21). -/
def startClock (startTime : Nat) : SongClock :=
  { tick := startTime, phase := 0, running := true, saturated := false, nextMark := nextMarkAfter startTime,
    markPending := false, slip := false }

/-- A candidate held by the detector takes the start time (R14). -/
def Detector.restamp (tick : Nat) : Detector → Detector
  | .released => .released
  | .pressing _ => .pressing tick
  | .pressed => .pressed
  | .releasing _ low => .releasing tick low

/-- START is accepted in IDLE with its end time greater than its start time (R113). -/
def acceptsStart (f : StartFrame) (s : State) : Bool :=
  s.station.state == .idle && decide (f.startTime.toNat < f.endTime.toNat)

/-- The effects of an accepted START, as one event (R116). -/
def takeStart (f : StartFrame) (s : State) : State :=
  let start := f.startTime.toNat
  let params := startParams f
  { s with
    station := { s.station with state := .playing, startTime := start, endTime := f.endTime.toNat, silence := some 0 }
    judge := params
    tally := startTally f
    queue := purged params.w f.endTime.toNat (s.adjust start) s.queue
    clock := startClock start
    sense := { s.sense with detector := s.sense.detector.restamp start } }

/-! ### STOP (R122) -/

/-- STOP is accepted in IDLE, PLAYING, LOST, FAILED and DONE (R122): the states that examine frames. -/
def acceptsStop (s : State) : Bool := s.station.state.examines

/-- The effects of an accepted STOP (R23, R47, R89, R122). -/
def takeStop (s : State) : State :=
  let s := (emptySong s).setClock s.clock.stopped
  let s := s.setLamp { s.lamp with flash := none, pattern := .noPattern }
  setState .idle none s

/-! ### Silence (R117, R118) -/

/-- SILENCE_TIMEOUT (R118): the silence timer reaches 250 ms in PLAYING. -/
def execSilenceTimeout (s : State) : Host.Outcome State Fault Refusal :=
  .next (whenPowered s fun s =>
    if s.station.state = .playing ∧ s.station.silence.isSome = true then enterLost s else s)

end Sys2Proof.Machine
end

