-- ==== Sys2Proof/Machine/Store.lean ====
section
/-! DEFINITION. The Settings Store and the resets: the load, WRITE, STORE and its completion or abandonment, RESET and
the loss of power (R110, R124 to R129). -/

namespace Sys2Proof.Machine

/-! ### Fields (R125) -/

/-- The value of a field as 16 bits, by field id (R125). -/
def Settings.field (c : Settings) (id : Nat) : BitVec 16 :=
  match id with
  | 0 => BitVec.ofNat 16 c.press
  | 1 => BitVec.ofNat 16 c.release
  | 2 => BitVec.ofNat 16 c.zoneSet
  | 3 => BitVec.ofInt 16 c.inputOffset
  | 4 => BitVec.ofNat 16 c.idleColour.q0
  | 5 => BitVec.ofNat 16 c.idleColour.q1
  | 6 => BitVec.ofNat 16 c.idleColour.q2
  | 7 => BitVec.ofNat 16 c.idleColour.q3
  | 8 => BitVec.ofNat 16 c.pressColour.q0
  | 9 => BitVec.ofNat 16 c.pressColour.q1
  | 10 => BitVec.ofNat 16 c.pressColour.q2
  | _ => BitVec.ofNat 16 c.pressColour.q3

/-- A settings value with one field written, the value clamped to the field's range (R125, R127); ids above 11 name
no field. -/
def Settings.write (c : Settings) (id : Nat) (v : BitVec 16) : Settings :=
  let colour := min 4095 v.toNat
  match id with
  | 0 => { c with press := min 16380 v.toNat }
  | 1 => { c with release := min 16380 v.toNat }
  | 2 => { c with zoneSet := min 15 v.toNat }
  | 3 => { c with inputOffset := clampInt (-400) 400 v.toInt }
  | 4 => { c with idleColour := { c.idleColour with q0 := colour } }
  | 5 => { c with idleColour := { c.idleColour with q1 := colour } }
  | 6 => { c with idleColour := { c.idleColour with q2 := colour } }
  | 7 => { c with idleColour := { c.idleColour with q3 := colour } }
  | 8 => { c with pressColour := { c.pressColour with q0 := colour } }
  | 9 => { c with pressColour := { c.pressColour with q1 := colour } }
  | 10 => { c with pressColour := { c.pressColour with q2 := colour } }
  | 11 => { c with pressColour := { c.pressColour with q3 := colour } }
  | _ => c

/-- The field ids (R125). -/
def fieldIds : List Nat := List.range 12

/-! ### The non-volatile copy (R125, R126, R128) -/

/-- The CRC over the fields of a copy, each as 16 bits in the order of the ids (R125; notes/assumptions/10.md). -/
def copyCrc (fields : List (BitVec 16)) : Byte := crc8 (fields.flatMap bitsOf)

/-- The CRC of the copy holds (R126). -/
def NvCopy.holds (n : NvCopy) : Bool := n.crc == copyCrc n.fields

/-- The copy a completed STORE leaves (R128). -/
def copyOf (c : Settings) : NvCopy :=
  let fields := fieldIds.map c.field
  { fields := fields, crc := copyCrc fields }

/-- The settings a copy loads as, each value clamped to its range (R126). -/
def NvCopy.settings (n : NvCopy) : Settings :=
  fieldIds.foldl (fun c id => c.write id (n.fields.getD id 0)) Settings.defaults

/-- The copy the `n`-th abandoned STORE leaves: contents free, and a CRC that does not hold (R128;
notes/assumptions/9.md). -/
def tornCopy (n : Nat) : NvCopy :=
  let fields := fieldIds.map (Config.tornField n)
  { fields := fields, crc := if Config.tornCrc n = copyCrc fields then ~~~(copyCrc fields) else Config.tornCrc n }

/-- A STORE in progress is abandoned (R124, R128). -/
def abandonStore (s : State) : State :=
  match s.settings.job with
  | some _ =>
    (s.setSettings { s.settings with nv := tornCopy s.freeCount, job := none }).setFreeCount (s.freeCount + 1)
  | none => s

/-- The STORE completes (R128). -/
def completeStore (s : State) : State :=
  match s.settings.job with
  | some j => s.setSettings { s.settings with nv := copyOf j.snapshot, job := none, defaulted := false }
  | none => s

/-- STORE_COMPLETE (R128): 20 ms have passed since the STORE began. -/
def execStoreComplete (s : State) : Host.Outcome State Fault Refusal := .next (whenPowered s completeStore)

/-- A STORE begins, over the working settings as they stand (R128). -/
def beginStore (s : State) : State :=
  s.setSettings { s.settings with job := some { snapshot := s.settings.working, elapsed := 0 } }

/-! ### WRITE (R4, R127) -/

/-- A zone whose flag in the zone set goes from `old` to `new` (R4). -/
def ZoneRecord.setFlag (old new : Bool) (z : ZoneRecord) : ZoneRecord :=
  match old, new with
  | true, false => { z with condition := .off, railCount := 0, insideCount := 0 }
  | false, true => { z with condition := .healthy, baseline := z.raw, railCount := 0, insideCount := 0 }
  | _, _ => z

/-- The flags of a zone set, zone 0 the least significant (R125). -/
def zoneFlags (zoneSet : Nat) : Quad Bool :=
  ⟨zoneSet.testBit 0, zoneSet.testBit 1, zoneSet.testBit 2, zoneSet.testBit 3⟩

/-- The zones updated for a zone set that changes (R4). -/
def updateZones (old new : Nat) (zones : Quad ZoneRecord) : Quad ZoneRecord :=
  Quad.zip (fun f z => f z) (Quad.zip (fun o n => ZoneRecord.setFlag o n) (zoneFlags old) (zoneFlags new)) zones

/-- The effect of a written field in the block that uses it (R127): the zone set at the zones, a colour channel at the
Lamp Unit. The thresholds and the input offset are read where they are used. -/
def applyField (id : Nat) (old new : Settings) (s : State) : State :=
  match id with
  | 2 => s.setSense { s.sense with zones := updateZones old.zoneSet new.zoneSet s.sense.zones }
  | 4 => s.setLamp { s.lamp with base := { s.lamp.base with q0 := new.idleColour.q0 } }
  | 5 => s.setLamp { s.lamp with base := { s.lamp.base with q1 := new.idleColour.q1 } }
  | 6 => s.setLamp { s.lamp with base := { s.lamp.base with q2 := new.idleColour.q2 } }
  | 7 => s.setLamp { s.lamp with base := { s.lamp.base with q3 := new.idleColour.q3 } }
  | 8 => s.setLamp { s.lamp with press := { s.lamp.press with q0 := new.pressColour.q0 } }
  | 9 => s.setLamp { s.lamp with press := { s.lamp.press with q1 := new.pressColour.q1 } }
  | 10 => s.setLamp { s.lamp with press := { s.lamp.press with q2 := new.pressColour.q2 } }
  | 11 => s.setLamp { s.lamp with press := { s.lamp.press with q3 := new.pressColour.q3 } }
  | _ => s

/-- A WRITE taken: the clamped value in the working settings, and its effect (R127). -/
def takeWrite (id : Nat) (v : BitVec 16) (s : State) : State :=
  let new := s.settings.working.write id v
  applyField id s.settings.working new (s.setSettings { s.settings with working := new })

/-! ### The load (R3, R126, R169) -/

/-- The condition a zone takes at the load (R3). -/
def loadedZone (on : Bool) (z : ZoneRecord) : ZoneRecord := { z with condition := if on then .healthy else .off }

/-- The settings load (R126), with what it gives the Sense Unit (R1, R3) and the Lamp Unit (R169). -/
def loadSettings (s : State) : State :=
  let good := s.settings.nv.holds
  let working := if good then s.settings.nv.settings else Settings.defaults
  let s := s.setSettings { s.settings with working := working, defaulted := !good }
  let s := s.setSense { s.sense with zones := Quad.zip loadedZone (zoneFlags working.zoneSet) s.sense.zones,
                                     sampleTimer := some Config.cellsPerSample }
  s.setLamp { s.lamp with base := working.idleColour, press := working.pressColour }

/-- SETTINGS_LOAD (R111, R126): once in STARTUP, before the first sample. -/
def execSettingsLoad (s : State) : Host.Outcome State Fault Refusal :=
  .next (whenPowered s fun s => if s.station.state = .startup ∧ s.loaded = false then loadSettings s else s)

/-! ### Resets and loss of power (R110, R124, R128) -/

/-- Every block at its reset values, STARTUP entered, the straps as read (R109, R110, R124). The non-volatile copy, the
working settings and the defaulted flag are the load's (R126); a STORE in progress is abandoned (R128). -/
def resetStation (straps : Straps) (s : State) : State :=
  let s := abandonStore s
  { s with powered := true, straps := straps, station := .atReset, sense := .atReset, clock := .atReset,
           queue := .atReset, judge := .atReset, chords := [], tally := .atReset, reports := [], line := .atReset,
           lamp := .atReset }

/-- RESET (R124): power-on or the reset pin, with what the straps read (R110). -/
def execReset (straps : Straps) (s : State) : Host.Outcome State Fault Refusal := .next (resetStation straps s)

/-- The Line Controller without supply: nothing driven, nothing followed. The line state is that of a frame cut off
(notes/assumptions/14.md). -/
def LineController.dead (l : LineController) : LineController :=
  { l with state := if l.busyWithFrame then .receiving else l.state, assembly := none, decision := none,
           inFlight := none }

/-- The Lamp Unit without supply: no channel driven. -/
def LampUnit.dark (l : LampUnit) : LampUnit := { l with channels := l.channels.map fun c => { c with duty := 0 } }

/-- POWER_LOSS (R128): a STORE in progress is abandoned, the line and the lamps are released, the frame in flight or
followed ends as an aborted one does (R97, R145), and until a RESET the part does nothing (notes/assumptions/14.md,
18.md). -/
def losePower (s : State) : State :=
  let s := dropEvicted (abandonStore s)
  let s := s.setQueue { s.queue with pendingInsertion := none }
  ((s.setLine s.line.dead).setLamp s.lamp.dark).setPowered false

/-- POWER_LOSS (R128). -/
def execPowerLoss (s : State) : Host.Outcome State Fault Refusal := .next (whenPowered s losePower)

end Sys2Proof.Machine
end

