-- ==== Sys2Proof/Machine/Receive.lean ====
section
/-! DEFINITION. Received frames: the decision at the acknowledge cell, the effects at end-of-frame, and one meaning per
receiving command (R27, R37, R38, R76, R83, R103, R113, R119, R122, R127, R139 to R142, R146, R156 to R168).

The classes with an effect of their own call it from the block's file; what is common to all stands here once. -/

namespace Sys2Proof.Machine

/-! ### Decisions (R139, R141) -/

/-- A frame with a target byte reaches this station: the target is its floor address, and no STORE is in progress
(R37, R128). -/
def addressed (target : Byte) (s : State) : Bool := target.toNat == s.address && s.settings.job.isNone

/-- The adjusted clock as it will stand at end-of-frame (R40): one tick on if the decision is taken a cell ahead and a
tick boundary falls inside that cell. -/
def adjClockAhead (ahead : Bool) (s : State) : Nat :=
  if ahead && s.clock.advances && decide (s.clock.phase = 19) then s.adjust (s.clock.tick + 1) else s.adjClock

/-- The entry an accepted NOTE holds as its pending insertion (R43), or the reason it is refused (R38), if it reaches the
Note Queue at all (R37). -/
def noteVerdict (ahead : Bool) (f : NoteFrame) (s : State) : Option (Except RefusalReason NoteEntry) :=
  if addressed f.target s then some (testNote f (adjClockAhead ahead s) s) else none

/-- Whether this station is in a LAMP frame's target set (R162, R163). -/
def lampTargets (f : LampFrame) (s : State) : Bool := f.targets.getLsbD s.address

/-- A SETUP frame is accepted by its target in IDLE with the store not busy (R127). -/
def acceptsSetup (target : Byte) (s : State) : Bool := addressed target s && s.station.state == .idle

/-- Whether the station accepts a frame received correctly, and so drives its acknowledge (R141). -/
def accepts (ahead : Bool) (f : Frame) (s : State) : Bool :=
  match f with
  | .mark _ => s.clock.running
  | .start f => acceptsStart f s
  | .stop => acceptsStop s
  | .note f => match noteVerdict ahead f s with
    | some (.ok _) => true
    | _ => false
  | .member _ => true
  | .orphan _ => true
  | .closure _ => true
  | .tail _ => true
  | .lamp f _ => lampTargets f s
  | .write f => acceptsSetup f.target s
  | .store t => acceptsSetup t s
  | .restart t => acceptsSetup t s
  | .query f => addressed f.target s
  | .status _ => true

/-- Why a NOTE for this station is refused, if it is (R38). -/
def refusalOf (ahead : Bool) (f : Frame) (s : State) : Option RefusalReason :=
  match f with
  | .note f => match noteVerdict ahead f s with
    | some (.error r) => some r
    | _ => none
  | _ => none

/-- The pending insertion a frame leaves in its acknowledge cell (R43). -/
def insertionOf (ahead : Bool) (f : Frame) (s : State) : Option NoteEntry :=
  match f with
  | .note f => match noteVerdict ahead f s with
    | some (.ok e) => some e
    | _ => none
  | _ => none

/-- The assembly of a frame at the start of its acknowledge cell: every bit sampled, 24 + 8n cells (R132). -/
def fullAssembly (f : Frame) : Assembly := { bits := f.wire.bits, cells := 24 + 8 * f.payload.length }

/-- The decision on a frame received correctly, held until its end-of-frame (R139, R142). -/
def decideFrame (ahead : Bool) (f : Frame) (s : State) : State :=
  let d : Decision := { frame := f, accepted := accepts ahead f s, refusal := refusalOf ahead f s }
  let t := s.setQueue { s.queue with pendingInsertion := insertionOf ahead f s }
  t.setLine { s.line with state := .receiving, highCount := 0, assembly := some (fullAssembly f), decision := some d }

/-- The line at the end of a frame this station followed without sending it (R133, R142). -/
def heardEnd (s : State) : State := s.setLine (s.line.released 0 false)

/-- Whether the Line Controller is in a state to follow another station's frame to its acknowledge cell (R134, R136):
not in LINE_BREAK, not sending, not already in an acknowledge cell. -/
def LineController.mayFollow (l : LineController) : Bool :=
  (l.state == .lineFree || l.state == .receiving) && l.decision.isNone && l.inFlight.isNone

/-- A frame that takes no effect here reaches its end: in LINE_BREAK its edges only set the high count to 0 (R130);
otherwise the line alone is released (R142). -/
def heardUnread (s : State) : State :=
  if s.line.state = .lineBreak then edgeInBreak s else if s.line.mayFollow then heardEnd s else s

/-- A frame reaching the start of its acknowledge cell (R139). One that is not well formed is discarded; one that bears the
station's own address makes it enter FAULT (R146); a station in FAULT examines none (notes/assumptions/32.md). -/
def reachAck (ahead : Bool) (f : Frame) (s : State) : State :=
  if s.followsLine then
    if s.station.state.examines && s.line.mayFollow && f.wellFormed then
      if f.sender = some s.headerAddress then enterFault .duplicate s else decideFrame ahead f s
    else heardUnread s
  else s

/-! ### End-of-frame (R142) -/

/-- The end-of-frame of the frame held: the line, the blocks' effects, and Station Control told of it (R117, R119). -/
def reachEnd (f : Frame) (effect : Decision → State → State) (s : State) : State :=
  match s.line.decision with
  | some d => if d.frame = f then heardFrame (effect d (heardEnd s)) else s
  | none => s

/-- A received frame up to a point (notes/assumptions/7.md). -/
def receive (f : Frame) (effect : Decision → State → State) (p : FramePoint) (s : State) : State :=
  match p with
  | .ackCell => reachAck true f s
  | .endOfFrame => reachEnd f effect s
  | .whole => reachEnd f effect (reachAck false f s)

/-- An effect the blocks take only of a frame they accepted. -/
def ifAccepted (effect : State → State) (d : Decision) (s : State) : State := if d.accepted then effect s else s

/-! ### MARK, CONTROL -/

/-- MARK (R27, R28). -/
def execMark (f : MarkFrame) (p : FramePoint) (s : State) : Host.Outcome State Fault Refusal :=
  .next (whenPowered s (receive (.mark f) (ifAccepted (takeMark f.tick.toNat)) p))

/-- START (R113, R116). -/
def execStart (f : StartFrame) (p : FramePoint) (s : State) : Host.Outcome State Fault Refusal :=
  .next (whenPowered s (receive (.start f) (ifAccepted (takeStart f)) p))

/-- STOP (R122). -/
def execStop (p : FramePoint) (s : State) : Host.Outcome State Fault Refusal :=
  .next (whenPowered s (receive .stop (ifAccepted takeStop) p))

/-! ### NOTE -/

/-- A NOTE at its end-of-frame: the pending insertion made, or the refusal recorded (R38, R43). -/
def noteEffect (d : Decision) (s : State) : State :=
  match d.refusal with
  | some r => recordRefusal r s
  | none => if d.accepted then takeInsertion s else s

/-- NOTE (R38). -/
def execNote (f : NoteFrame) (p : FramePoint) (s : State) : Host.Outcome State Fault Refusal :=
  .next (whenPowered s (receive (.note f) noteEffect p))

/-! ### JUDGE -/

/-- MEMBER_REPORT (R76, R78). -/
def execMemberReport (r : HeadReport) (p : FramePoint) (s : State) : Host.Outcome State Fault Refusal :=
  .next (whenPowered s (receive (.member r) (fun _ => examineReport r.sender.toNat r.due.toNat r.grade) p))

/-- ORPHAN (R76): heard, and ignored by the Chord Table. -/
def execOrphan (r : HeadReport) (p : FramePoint) (s : State) : Host.Outcome State Fault Refusal :=
  .next (whenPowered s (receive (.orphan r) (fun _ s => s) p))

/-- A closing frame at its end-of-frame: the Chord Table, then adoption with the failure test (R83, R103, R106). -/
def closureEffect (c : ClosureFrame) (s : State) : State :=
  adopt c.sender.toNat c.carried (examineClosure c.sender.toNat c.due.toNat c.grade s)

/-- HEARD_CLOSURE (R83, R103). -/
def execHeardClosure (c : ClosureFrame) (p : FramePoint) (s : State) : Host.Outcome State Fault Refusal :=
  .next (whenPowered s (receive (.closure c) (fun _ => closureEffect c) p))

/-- TAIL_FRAME (R76, R103): adopted, and left alone by the Chord Table. -/
def execTailFrame (f : TailFrame) (p : FramePoint) (s : State) : Host.Outcome State Fault Refusal :=
  .next (whenPowered s (receive (.tail f) (fun _ => adopt f.sender.toNat f.carried) p))

/-! ### LAMP -/

/-- LAMP (R163), its clear-latch flag clear. -/
def execLamp (f : LampFrame) (p : FramePoint) (s : State) : Host.Outcome State Fault Refusal :=
  .next (whenPowered s (receive (.lamp f false) (ifAccepted (takeLamp f false)) p))

/-- CLEAR_LATCH (R163, R176): a LAMP frame with its clear-latch flag set. -/
def execClearLatch (f : LampFrame) (p : FramePoint) (s : State) : Host.Outcome State Fault Refusal :=
  .next (whenPowered s (receive (.lamp f true) (ifAccepted (takeLamp f true)) p))

/-! ### SETUP -/

/-- WRITE (R127). -/
def execWrite (f : WriteFrame) (p : FramePoint) (s : State) : Host.Outcome State Fault Refusal :=
  .next (whenPowered s (receive (.write f) (ifAccepted (takeWrite f.field.toNat f.value)) p))

/-- STORE (R128). -/
def execStore (target : Byte) (p : FramePoint) (s : State) : Host.Outcome State Fault Refusal :=
  .next (whenPowered s (receive (.store target) (ifAccepted beginStore) p))

/-- RESTART (R129): the reset at the end of the acknowledge cell, with what the straps read then (R110). -/
def execRestart (target : Byte) (straps : Straps) (p : FramePoint) (s : State) : Host.Outcome State Fault Refusal :=
  .next (whenPowered s (receive (.restart target) (ifAccepted (resetStation straps)) p))

/-! ### QUERY, STATUS -/

/-- The STATUS slot pending with the page carried, in place of any page it held (R166). -/
def takeQuery (f : QueryFrame) (s : State) : State :=
  s.setLine { s.line with statusSlot := pageOf f.page }

/-- QUERY (R165, R166). -/
def execQuery (f : QueryFrame) (p : FramePoint) (s : State) : Host.Outcome State Fault Refusal :=
  .next (whenPowered s (receive (.query f) (ifAccepted (takeQuery f)) p))

/-- STATUS_RECEIVED (R168): heard, and not kept. -/
def execStatusReceived (f : StatusFrame) (p : FramePoint) (s : State) : Host.Outcome State Fault Refusal :=
  .next (whenPowered s (receive (.status f) (fun _ s => s) p))

/-! ### Discarded frames -/

/-- A frame that fails the tests of R139. -/
def isDiscarded (w : WireFrame) : Bool :=
  match readFrame w with
  | .ok _ => false
  | .error _ => true

/-- FRAME_DISCARDED (R139, R142): a followed frame that fails a test reaches its end with no effect but the line's. -/
def execFrameDiscarded (w : WireFrame) (s : State) : Host.Outcome State Fault Refusal :=
  .next (whenPowered s fun s => if s.followsLine && isDiscarded w then heardUnread s else s)

end Sys2Proof.Machine
end

