-- ==== Sys2Proof/Machine/Time.lean ====
section
/-! DEFINITION. One cell period of the station's own oscillator, which passes when no command waits
(notes/assumptions/2.md, 31.md): every timer counts, and one that reaches its end does what its event lays down. -/

namespace Sys2Proof.Machine

/-- The STORE timer (R128). -/
def cellStore (s : State) : State :=
  match s.settings.job with
  | some j =>
    if Config.cellsPerStore ≤ j.elapsed + 1 then completeStore s
    else s.setSettings { s.settings with job := some { j with elapsed := j.elapsed + 1 } }
  | none => s

/-- The silence timer (R117, R118). -/
def cellSilence (s : State) : State :=
  match s.station.silence with
  | some n =>
    if Config.cellsPer250ms ≤ n + 1 then if s.station.state = .playing then enterLost s else s
    else s.setStation { s.station with silence := some (n + 1) }
  | none => s

/-- The step timer of the flash (R172). -/
def cellFlash (s : State) : State :=
  match s.lamp.flash with
  | some f =>
    if Config.cellsPerFlashStep ≤ f.timer + 1 then flashStep s
    else s.setLamp { s.lamp with flash := some { f with timer := f.timer + 1 } }
  | none => s

/-- The pattern timer, in FAULT (R171). -/
def cellPattern (s : State) : State :=
  if s.lamp.pattern.blinks then
    let n := s.lamp.patternTimer + 1
    s.setLamp { s.lamp with patternTimer := if 2 * Config.cellsPer250ms ≤ n then 0 else n }
  else s

/-- The sample timer and the PWM timer count to their periods and wait there for the readings and currents that the
commands SAMPLE and PWM_PERIOD bring (R1, R169). -/
def cellPeriods (s : State) : State :=
  let s := s.setSense { s.sense with
    sampleTimer := s.sense.sampleTimer.map fun n => min Config.cellsPerSample (n + 1) }
  s.setLamp { s.lamp with pwmTimer := min Config.cellsPerPwm (s.lamp.pwmTimer + 1) }

/-- The high cells at which a frame followed has timed out: inside a frame the line is never high for as long as 3 cells
(R130, R143). -/
def timeoutCells : Nat := 3

/-- A high cell in a frame another station sends: the high count goes on, and the frame times out at the third (R143,
R145). -/
def followedCell (s : State) : State :=
  let n := min yieldGap (s.line.highCount + 1)
  if timeoutCells ≤ n then abortFrame n s else s.setLine { s.line with highCount := n }

/-- The high count, on a line that stays high: with no frame on it (R133), or with one of another station on it that brings
no further edge (R143). An own frame waits for its commands (notes/assumptions/2.md). -/
def cellLine (s : State) : State :=
  if s.followsLine then
    if s.line.assembly.isSome && s.line.inFlight.isNone then followedCell s
    else if s.line.busyWithFrame then s
    else s.setLine (s.line.countHigh (s.line.highCount + 1))
  else s

/-- The song clock: a cell, or a tick boundary when the phase would pass 19 (R20). -/
def cellClock (s : State) : State :=
  if s.clock.advances then
    if Config.cellsPerTick ≤ s.clock.phase + 1 then tickBoundary s
    else s.setClock { s.clock with phase := s.clock.phase + 1 }
  else s

/-- The end of STARTUP, once its samples have been taken (R111). -/
def cellStartup (s : State) : State := if s.startupOver then endStartup s else s

/-- A cell period with no command waiting. -/
def cellPeriod (s : State) : State :=
  whenPowered s fun s =>
    cellClock (cellLine (cellPeriods (cellPattern (cellFlash (cellSilence (cellStore (cellStartup s)))))))

end Sys2Proof.Machine
end

