-- ==== Sys2Proof/Machine/Dispatch.lean ====
section
/-! DEFINITION. One arm per command, each one call of its meaning. -/

namespace Sys2Proof.Machine

/-- The effect of a command on everything but the queue of commands that wait. -/
def exec (i : Instr) (s : State) : Host.Outcome State Fault Refusal :=
  match i with
  | .reset straps => Sys2Proof.Machine.execReset straps s
  | .settingsLoad => Sys2Proof.Machine.execSettingsLoad s
  | .sample raws => Sys2Proof.Machine.execSample raws s
  | .zoneFault zone => Sys2Proof.Machine.execZoneFault zone s
  | .zoneRecovery zone => Sys2Proof.Machine.execZoneRecovery zone s
  | .baselineTracking => Sys2Proof.Machine.execBaselineTracking s
  | .press => Sys2Proof.Machine.execPress s
  | .release => Sys2Proof.Machine.execRelease s
  | .startupEnd => Sys2Proof.Machine.execStartupEnd s
  | .tickAdvance => Sys2Proof.Machine.execTickAdvance s
  | .lapse due => Sys2Proof.Machine.execLapse due s
  | .holdEnd due => Sys2Proof.Machine.execHoldEnd due s
  | .graceExpiry due => Sys2Proof.Machine.execGraceExpiry due s
  | .forcedClosePoint key => Sys2Proof.Machine.execForcedClosePoint key s
  | .markPoint => Sys2Proof.Machine.execMarkPoint s
  | .saturation => Sys2Proof.Machine.execSaturation s
  | .silenceTimeout => Sys2Proof.Machine.execSilenceTimeout s
  | .flashStep => Sys2Proof.Machine.execFlashStep s
  | .faultPatternTimer => Sys2Proof.Machine.execFaultPatternTimer s
  | .pwmPeriod sensed => Sys2Proof.Machine.execPwmPeriod sensed s
  | .openFlag channel => Sys2Proof.Machine.execOpenFlag channel s
  | .storeComplete => Sys2Proof.Machine.execStoreComplete s
  | .idleGap => Sys2Proof.Machine.execIdleGap s
  | .frameStart instant => Sys2Proof.Machine.execFrameStart instant s
  | .payloadLatch => Sys2Proof.Machine.execPayloadLatch s
  | .markSent ending => Sys2Proof.Machine.execMarkSent ending s
  | .judgeSent ending => Sys2Proof.Machine.execJudgeSent ending s
  | .statusSent ending => Sys2Proof.Machine.execStatusSent ending s
  | .mark f p => Sys2Proof.Machine.execMark f p s
  | .start f p => Sys2Proof.Machine.execStart f p s
  | .stop p => Sys2Proof.Machine.execStop p s
  | .note f p => Sys2Proof.Machine.execNote f p s
  | .memberReport r p => Sys2Proof.Machine.execMemberReport r p s
  | .orphan r p => Sys2Proof.Machine.execOrphan r p s
  | .heardClosure c p => Sys2Proof.Machine.execHeardClosure c p s
  | .tailFrame f p => Sys2Proof.Machine.execTailFrame f p s
  | .lamp f p => Sys2Proof.Machine.execLamp f p s
  | .clearLatch f p => Sys2Proof.Machine.execClearLatch f p s
  | .write f p => Sys2Proof.Machine.execWrite f p s
  | .store target p => Sys2Proof.Machine.execStore target p s
  | .restart target straps p => Sys2Proof.Machine.execRestart target straps p s
  | .query f p => Sys2Proof.Machine.execQuery f p s
  | .statusReceived f p => Sys2Proof.Machine.execStatusReceived f p s
  | .runt => Sys2Proof.Machine.execRunt s
  | .longLow => Sys2Proof.Machine.execLongLow s
  | .frameTimeout => Sys2Proof.Machine.execFrameTimeout s
  | .lineBreak => Sys2Proof.Machine.execLineBreak s
  | .frameDiscarded w => Sys2Proof.Machine.execFrameDiscarded w s
  | .lineBreakFallingEdge => Sys2Proof.Machine.execLineBreakFallingEdge s
  | .powerLoss => Sys2Proof.Machine.execPowerLoss s

end Sys2Proof.Machine
end

