-- ==== Sys2Proof/Safety.lean ====
section
/-! DEFINITION. What a sound state is: the ranges and relations the manual says hold in every state a station reaches,
as decidable predicates, block by block. -/

namespace Sys2Proof.Machine

/-- `a` implies `b`. -/
def implies (a b : Bool) : Bool := !a || b

/-! ### Song Clock (R19, R20, R22) -/

/-- The states in which the song clock runs (R20). -/
def StationState.clockRuns : StationState → Bool
  | .playing => true
  | .lost => true
  | .failed => true
  | .done => true
  | .startup => false
  | .idle => false
  | .fault => false

/-- A next mark point is a multiple of 256 in 256..16,776,960 (R19). -/
def markPointOk : Option Nat → Bool
  | none => true
  | some m => m % 256 == 0 && decide (256 ≤ m) && decide (m ≤ lastMarkPoint)

/-- The Song Clock is in its ranges, runs in the states R20 names, holds its tick when saturated, and has a MARK pending
only while it runs unsaturated (R19, R20, R22, R23). -/
def clockSound (s : State) : Bool :=
  decide (s.clock.tick ≤ maxTick) && decide (s.clock.phase < Config.cellsPerTick) &&
    (s.clock.running == s.station.state.clockRuns) &&
    implies s.clock.saturated (s.clock.tick == maxTick && s.clock.phase == 0) &&
    implies s.clock.markPending (s.clock.running && !s.clock.saturated) && markPointOk s.clock.nextMark

/-! ### Tallies (R92, R93, R94) -/

/-- Tallies in their ranges, the combo not above the max combo (R92). -/
def Replica.sound (p : Replica) : Bool :=
  decide (p.score ≤ maxScore) && decide (p.combo ≤ p.maxCombo) && decide (p.maxCombo ≤ maxCount) &&
    decide (p.gauge ≤ maxGauge)

/-- Own counts in their range (R93). -/
def OwnCounts.sound (c : OwnCounts) : Bool :=
  decide (c.exact ≤ maxCount) && decide (c.tight ≤ maxCount) && decide (c.near ≤ maxCount) &&
    decide (c.wide ≤ maxCount) && decide (c.miss ≤ maxCount) && decide (c.ok ≤ maxCount) && decide (c.ng ≤ maxCount)

/-- The tallies a latched frame will apply, if any. -/
def Latch.tallies : Latch → Option Replica
  | .judge j => j.tallies
  | .mark => none
  | .status => none

/-- The tallies of the frame in flight, if it is latched and closes. -/
def inFlightTallies (s : State) : Option Replica := s.line.inFlight.bind fun f => f.latched.bind fun l => l.content.tallies

/-- The Tally Unit in its ranges, together with what it is about to apply or adopt (R92, R93, R94, R100, R104). -/
def tallySound (s : State) : Bool :=
  s.tally.replica.sound && s.tally.counts.sound && decide (1 ≤ s.tally.noteValue) &&
    decide (s.tally.noteValue ≤ 10000) && (inFlightTallies s).all Replica.sound &&
    s.line.decision.all fun d => d.frame.wellFormed

/-! ### Note Queue (R33, R35, R36, R49) -/

/-- Two notes may stand in the queue in this order: rising dues, the later not in the earlier one's span (R35). -/
def noteBefore (a b : NoteEntry) : Bool := decide (a.due < b.due) && !a.spans b.due

/-- Every pair of a list, the earlier first, stands in the relation `r`. -/
def pairwise {α : Type} (r : α → α → Bool) : List α → Bool
  | [] => true
  | a :: as => as.all (r a) && pairwise r as

/-- A new note fits among the entries held: no due twice, no overlap (R41). -/
def fits (e : NoteEntry) (entries : List NoteEntry) : Bool :=
  entries.all fun x => x.due != e.due && !overlap e x

/-- The states in which the queue may hold entries (R49). -/
def StationState.holdsNotes (st : StationState) : Bool := st.takesNotes

/-- A decision that accepts a NOTE (R43). -/
def Decision.takesNote (d : Decision) : Bool :=
  match d.frame with
  | .note _ => d.accepted && d.refusal.isNone
  | _ => false

/-- The queue is in due order without overlaps, a pending insertion fits in it, 32 is never exceeded, nothing is held
outside IDLE, PLAYING and LOST, and a pending insertion is held only through an acknowledge cell (R35, R42, R43, R49). -/
def queueSound (s : State) : Bool :=
  pairwise noteBefore s.queue.entries && decide (s.queue.held ≤ queueCapacity) &&
    s.queue.pendingInsertion.all (fun e => fits e s.queue.entries) &&
    implies (!s.station.state.holdsNotes) (s.queue.entries.isEmpty && s.queue.pendingInsertion.isNone) &&
    implies s.queue.pendingInsertion.isSome (s.line.decision.any Decision.takesNote) &&
    decide (s.queue.staleCount ≤ 255)

/-- The results an entry holds fit its kind and state (R33, R60). -/
def NoteEntry.sound (e : NoteEntry) : Bool :=
  match e.kind, e.state with
  | .tap, .waiting => e.head.isNone && e.tail.isNone && !e.headSent
  | .tap, .judged => e.head.isSome && e.tail.isNone && !e.headSent
  | .tap, .holding => false
  | .tap, .slipping _ => false
  | .hold _, .waiting => e.head.isNone && e.tail.isNone && !e.headSent
  | .hold _, .holding => e.head.isSome && e.tail.isNone
  | .hold _, .slipping _ => e.head.isSome && e.tail.isNone
  | .hold _, .judged => e.head.isSome && e.tail.isSome

/-- In IDLE every entry is WAITING, and a pending insertion always is (R34, R45, R112). -/
def waitingSound (s : State) : Bool :=
  implies (s.station.state == .idle) (s.queue.entries.all fun e => e.state.isWaiting) &&
    s.queue.pendingInsertion.all fun e => e.state.isWaiting

/-- Every entry's results fit its kind and state, those of a pending insertion too, and `waitingSound` (R33, R34, R45). -/
def entriesSound (s : State) : Bool :=
  s.queue.entries.all NoteEntry.sound && s.queue.pendingInsertion.all NoteEntry.sound && waitingSound s

/-! ### Holds (R53) -/

/-- An entry that is HOLDING or SLIPPING. -/
def NoteEntry.inHold (e : NoteEntry) : Bool := e.state.isHolding || e.state.isSlipping

/-- At most one entry is HOLDING or SLIPPING; it is HOLDING only while the panel is down, SLIPPING only while it is up
(R53). -/
def holdsSound (s : State) : Bool :=
  decide ((s.queue.entries.filter NoteEntry.inHold).length ≤ 1) &&
    s.queue.entries.all fun e => implies e.state.isHolding s.sense.detector.down && implies e.state.isSlipping (!s.sense.detector.down)

/-! ### Chord Table (R75) -/

/-- A record's reports name only partners expected, each at most once, and a forced close is pending only behind an own
report (R75, R85). -/
def ChordRecord.sound (r : ChordRecord) : Bool :=
  r.reports.all (fun p => r.expected.contains p.1) && distinct (r.reports.map Prod.fst) && implies r.forcedPending r.ownSent

/-- At most 8 records, no key twice, each record sound, and none outside PLAYING and LOST (R75, R76, R89). -/
def chordsSound (s : State) : Bool :=
  decide (s.chords.length ≤ chordCapacity) && distinct (s.chords.map ChordRecord.key) && s.chords.all ChordRecord.sound &&
    implies (!s.station.state.judges) s.chords.isEmpty

/-! ### Line Controller (R130, R147) -/

/-- Whether the frame in flight has its payload. -/
def LineController.hasLatched (l : LineController) : Bool := l.inFlight.any fun f => f.latched.isSome

/-- The line state agrees with the frame in flight or followed, LINE_FREE has its idle gap, the high count is in its range,
and no decision outlives its assembly (R130, R147). -/
def lineSound (s : State) : Bool :=
  let l := s.line
  decide (l.highCount ≤ yieldGap) &&
    (l.inFlight.isSome == (l.state == .contending || l.state == .sending)) && (l.hasLatched == (l.state == .sending)) &&
    implies (l.state == .lineFree) (decide (idleGap ≤ l.highCount)) &&
    implies l.assembly.isSome (l.state == .receiving) && implies l.decision.isSome l.assembly.isSome

/-! ### Report list (R96) -/

/-- How many items of a kind and due are in the list. -/
def itemCount (kind : ItemKind) (due : Nat) (s : State) : Nat := s.reports.countP fun i => i.kind == kind && i.due == due

/-- One if `b`, else none. -/
def oneIf (b : Bool) : Nat := if b then 1 else 0

/-- The items an entry has in the list: one when JUDGED (a TAP's, or a HOLD's TAIL), one while a judged HOLD head is
unsent (R96). -/
def itemsOfEntry (s : State) (e : NoteEntry) : Bool :=
  match e.kind with
  | .tap =>
    itemCount .tap e.due s == oneIf (e.state == .judged) && itemCount .head e.due s == 0 && itemCount .tail e.due s == 0
  | .hold _ =>
    itemCount .tap e.due s == 0 && itemCount .head e.due s == oneIf (e.head.isSome && !e.headSent) &&
      itemCount .tail e.due s == oneIf (e.state == .judged)

/-- The key of the FORCED item in flight whose record was evicted, if there is one (R97). -/
def evictedKey (s : State) : Option Nat :=
  match s.line.inFlight with
  | some { latched := some { content := .judge j, .. }, .. } => if j.evicted then some j.item.due else none
  | _ => none

/-- The forced-close items of a key: one if its record has one pending, or if it is the evicted item in flight
(R96, R97). -/
def forcedItems (key : Nat) (s : State) : Nat :=
  oneIf (s.chords.any fun r => r.key == key && r.forcedPending) + oneIf (evictedKey s == some key)

/-- An item of the list names an entry, or a forced close that accounts for it (R96). -/
def itemNamed (s : State) (i : ReportItem) : Bool :=
  match i.kind with
  | .forced => itemCount .forced i.due s == forcedItems i.due s
  | _ => s.queue.entries.any fun e => e.due == i.due

/-- The form of a latched JUDGE frame is one its item's kind can take (R80, R86, R96). -/
def JudgeLatch.formOfKind (j : JudgeLatch) : Bool :=
  match j.item.kind with
  | .tap => j.form != .tail && j.form != .forced
  | .head => j.form != .tail && j.form != .forced
  | .tail => j.form == .tail
  | .forced => j.form == .forced

/-- The latched JUDGE frame is a report's, of the item at the head of the list, in a form of its kind, and marked as evicted
only if it is FORCED (R97). -/
def latchAtHead (s : State) : Bool :=
  match s.line.inFlight with
  | some { source := src, latched := some { content := .judge j, .. }, .. } =>
    src == .report && s.reports.head? == some j.item && j.formOfKind && implies j.evicted (j.form == .forced)
  | _ => true

/-- An item may stand before another: no TAIL item stands before the HEAD item of its entry (R69, R96). -/
def itemBefore (a b : ReportItem) : Bool := !(a.kind == .tail && b.kind == .head && a.due == b.due)

/-- While the FORCED frame of an evicted record is in flight, a record of its key has no own report sent, and the slots
suffice: the table has room, or a record whose own report is not sent (R97). -/
def evictedSound (s : State) : Bool :=
  (evictedKey s).all fun k =>
    s.chords.all (fun r => implies (r.key == k) (!r.ownSent)) &&
      (decide (s.chords.length < chordCapacity) || s.chords.any fun r => !r.ownSent)

/-- The report list is empty outside PLAYING and LOST (R96). -/
def reportsConfined (s : State) : Bool := implies (!s.station.state.judges) s.reports.isEmpty

/-- The report list holds exactly the items R96 names, a HEAD item before its TAIL item, is empty outside PLAYING and LOST,
and holds at most 72; the latched frame is of its first item (R96, R97). -/
def reportsSound (s : State) : Bool :=
  s.queue.entries.all (itemsOfEntry s) && s.chords.all (fun r => itemCount .forced r.key s == forcedItems r.key s) &&
    s.reports.all (itemNamed s) && pairwise itemBefore s.reports && latchAtHead s && evictedSound s && reportsConfined s &&
    decide (s.reports.length ≤ 72)

/-! ### Lamp Unit (R169, R170) and settings (R125) -/

/-- Four channel values in 0..4095. -/
def colourSound (c : Quad Nat) : Bool := c.all fun x => decide (x ≤ 4095)

/-- The settings lie in the ranges of R125. -/
def Settings.sound (c : Settings) : Bool :=
  decide (c.press ≤ 16380) && decide (c.release ≤ 16380) && decide (c.zoneSet ≤ 15) &&
    decide (-400 ≤ c.inputOffset) && decide (c.inputOffset ≤ 400) && colourSound c.idleColour && colourSound c.pressColour

/-- The Settings Store in its ranges, the copy of a STORE in progress included (R125, R128). -/
def settingsSound (s : State) : Bool :=
  s.settings.working.sound && s.settings.job.all fun j => j.snapshot.sound

/-- A flash within its steps and colours (R169, R172). -/
def Flash.sound (f : Flash) : Bool :=
  colourSound f.colour && decide (1 ≤ f.steps) && decide (f.steps ≤ 16) && decide (f.timer < Config.cellsPerFlashStep)

/-- A channel whose short latch is set has duty 0, and its duty and run count are in range (R169). -/
def Channel.sound (c : Channel) : Bool :=
  decide (c.duty ≤ 4095) && implies c.shortLatch (c.duty == 0) && decide (c.runCount ≤ 8)

/-- The Lamp Unit in its ranges (R169, R172, R176). -/
def lampSound (s : State) : Bool :=
  colourSound s.lamp.base && colourSound s.lamp.press && s.lamp.flash.all Flash.sound &&
    decide (s.lamp.patternTimer < 2 * Config.cellsPer250ms) && s.lamp.channels.all Channel.sound

/-- The pattern a station state and fault cause put in force (R170). -/
def patternOf (st : StationState) (cause : FaultCause) : Pattern :=
  match st with
  | .lost => .lost
  | .failed => .failed
  | .fault => cause.pattern
  | .startup => .noPattern
  | .idle => .noPattern
  | .playing => .noPattern
  | .done => .noPattern

/-- A decision is held only in a state that examines frames, and an accepted START only in IDLE (R113, R147). -/
def decisionSound (s : State) : Bool :=
  s.line.decision.all fun d => s.station.state.examines &&
    match d.frame with
    | .start _ => implies d.accepted (s.station.state == .idle)
    | _ => true

/-- The silence timer runs in PLAYING only, below its timeout; a fault cause stands in FAULT only; the pattern is the one
of the station state (R109, R117, R118, R170). -/
def stationSound (s : State) : Bool :=
  (s.station.silence.isSome == (s.station.state == .playing)) &&
    s.station.silence.all (fun n => decide (n < Config.cellsPer250ms)) &&
    ((s.station.cause != .noFault) == (s.station.state == .fault)) &&
    (s.lamp.pattern == patternOf s.station.state s.station.cause) &&
    decide (s.station.startTime ≤ maxTick) && decide (s.station.endTime ≤ maxTick)

/-! ### Sense Unit (R3, R7, R9, R11) -/

/-- A zone record in its ranges; counts stand only in the condition that counts them (R3). -/
def ZoneRecord.sound (z : ZoneRecord) : Bool :=
  decide (z.raw ≤ 4095) && decide (z.baseline ≤ 4095) && decide (z.railCount ≤ 200) && decide (z.insideCount ≤ 200) &&
    implies (z.condition != .healthy) (z.railCount == 0) && implies (z.condition != .faulty) (z.insideCount == 0)

/-- A zone that has counted nothing, as each is until the settings load (R3). -/
def ZoneRecord.uncounted (z : ZoneRecord) : Bool := z.railCount == 0 && z.insideCount == 0

/-- The Sense Unit in its ranges, the detector RELEASED through STARTUP, nothing counted before the settings load (R3, R7,
R9, R11, R16). -/
def senseSound (s : State) : Bool :=
  s.sense.zones.all ZoneRecord.sound && decide (s.sense.load ≤ 16380) && decide (s.sense.drift ≤ 15) &&
    decide (s.sense.samples ≤ startupSamples) && implies (s.station.state == .startup) (s.sense.detector == .released) &&
    implies s.sense.sampleTimer.isNone (s.sense.zones.all ZoneRecord.uncounted)

/-! ### The judgment windows (R50, R114) -/

/-- The windows in order, at least 4 ticks apart, and the hold grace in its range (R50, R114). -/
def windowsSound (j : JudgeParams) : Bool :=
  decide (4 ≤ j.e) && decide (j.e + 4 ≤ j.t) && decide (j.t + 4 ≤ j.n) && decide (j.n + 4 ≤ j.w) && decide (j.w ≤ 800) &&
    decide (j.g ≤ 1020) && decide (j.g % 4 = 0)

/-! ### What the statements of Certificates/ say of a sample, a judged head, a threshold and a frame heard -/

/-- A zone record after stage 1 of a sample that reads `r` (R3, R5, R6). -/
def ZoneRecord.afterStage1 (r : Nat) (z : ZoneRecord) : ZoneRecord :=
  let rail := r = 0 ∨ r = 4095
  match z.condition with
  | .healthy =>
    if rail then
      if 199 ≤ z.railCount then { z with raw := r, condition := .faulty, railCount := 0, insideCount := 0 }
      else { z with raw := r, railCount := z.railCount + 1 }
    else { z with raw := r, railCount := 0 }
  | .faulty =>
    if rail then { z with raw := r, insideCount := 0 }
    else if 199 ≤ z.insideCount then
      { raw := r, baseline := r, condition := .healthy, railCount := 0, insideCount := 0 }
    else { z with raw := r, insideCount := z.insideCount + 1 }
  | .off => { z with raw := r }

/-- The baseline of a zone record after a step of tracking (R9). -/
def ZoneRecord.afterTracking (z : ZoneRecord) : ZoneRecord :=
  { z with baseline :=
      if z.condition = .healthy then
        if z.baseline < z.raw then z.baseline + 1 else if z.raw < z.baseline then z.baseline - 1 else z.baseline
      else z.baseline }

/-- The load over the zone records after stage 1 (R7). -/
def loadAfterStage1 (raws : Quad (BitVec 12)) (s : State) : Nat :=
  let part := fun i : Fin 4 =>
    let z := (s.sense.zones.get i).afterStage1 (raws.get i).toNat
    if z.condition = .healthy then z.raw - z.baseline else 0
  part 0 + part 1 + part 2 + part 3

/-- The command that takes a threshold on its own. -/
def Threshold.command (x : Threshold) : Instr :=
  match x.kind with
  | .lapse => .lapse x.due
  | .holdEnd => .holdEnd x.due
  | .grace => .graceExpiry x.due
  | .forced => .forcedClosePoint x.due

/-- Telling the Chord Table the head of an entry needs no eviction (R77). -/
def State.hasRoomFor (s : State) (e : NoteEntry) : Bool :=
  decide (s.chords.length < 8) || e.partners.isEmpty || e.chordClosed || s.chords.any fun r => r.key == e.due

/-- The Chord Table once told the head grade of an own entry, where it has room for a record (R77). -/
def State.chordsTold (s : State) (e : NoteEntry) (g : Grade) : List ChordRecord :=
  if e.partners = [] ∨ e.chordClosed = true then s.chords
  else if s.chords.any (fun r => r.key == e.due) then
    s.chords.map fun r => if r.key = e.due then { r with own := some g } else r
  else
    s.chords ++
      [{ key := e.due, expected := e.partners, reports := [], own := some g, ownSent := false, forcedPending := false }]

/-- The station follows `f`, a well-formed frame of another station or the console, to its end and examines it (R134, R136,
R139, R147). -/
def State.hears (s : State) (f : Frame) : Bool :=
  s.powered && s.station.state.examines && s.line.mayFollow && f.wellFormed && f.sender != some s.headerAddress

/-- The line after a frame followed to its end without being sent (R142). -/
def State.lineAfterHeard (s : State) : LineController :=
  { s.line with state := .receiving, highCount := 0, lastSender := false, assembly := none, decision := none,
                inFlight := none }

/-- Station Control after a frame heard: PLAYING and LOST are PLAYING with the silence timer at 0 (R117, R119). -/
def State.stationAfterHeard (s : State) : StationControl :=
  match s.station.state with
  | .playing => { s.station with silence := some 0 }
  | .lost => { s.station with state := .playing, silence := some 0 }
  | _ => s.station

/-- The lamps after a frame heard: the LOST pattern leaves (R119). -/
def State.lampAfterHeard (s : State) : LampUnit :=
  match s.station.state with
  | .lost => { s.lamp with pattern := .noPattern }
  | _ => s.lamp

/-- The station after a frame heard that changes no block (R117, R119, R142). -/
def State.afterHeard (s : State) : State :=
  { s with queue := { s.queue with pendingInsertion := none }, line := s.lineAfterHeard, station := s.stationAfterHeard,
           lamp := s.lampAfterHeard }

/-! ### The whole -/

/-- A sound state. -/
def State.sound (s : State) : Bool :=
  clockSound s && tallySound s && queueSound s && entriesSound s && holdsSound s && chordsSound s && lineSound s &&
    reportsSound s && settingsSound s && lampSound s && stationSound s && decisionSound s && senseSound s && windowsSound s.judge

end Sys2Proof.Machine
end

