-- ==== Sys2Proof/Certificates/Slice0/Obligations.lean ====
section
/-! DEFINITION. The statements about the station, for the provers; OBLIGATIONS.json lists them. A result statement gives the
next state as `s` with the blocks it names replaced, so it is the frame of the command as well. -/

open Sys2Proof Sys2Proof.Machine

/-! ### The machine -/

/-- The model's choice (notes/assumptions/1.md): commands wait in a queue, first in, first out, and a step runs the one at its
front, whole, with the rest left waiting. -/
def Obligations.StepRunsFront : Prop :=
  ∀ (c : Instr) (rest : List Instr) (s : State), s.pending = c :: rest → step s = exec c { s with pending := rest }

/-- The model's choice (notes/assumptions/2.md): with no command waiting, a step is one cell period, in which a running clock
below its limit moves one cell (R20), and in DONE at phase 19 passes to the next tick; without supply nothing happens
(notes/assumptions/18.md). A frame of another station that is being followed brings no edge in such a cell: the high count goes
on, and at the third the frame has timed out and is aborted (R143, R145). -/
def Obligations.IdleStepPassesOneCell : Prop :=
  (∀ s : State, s.pending = [] → s.powered = false → step s = .next s) ∧
  (∀ s : State, s.pending = [] → s.powered = true → clockSound s = true → s.clock.advances = true → s.clock.phase < 19 →
    ∃ t, step s = .next t ∧ t.clock = { s.clock with phase := s.clock.phase + 1 } ∧ t.queue.entries = s.queue.entries ∧
      (s.line.assembly = none → t.queue = s.queue) ∧
      t.chords = s.chords ∧ t.tally = s.tally ∧ t.reports = s.reports ∧ t.judge = s.judge ∧ t.straps = s.straps ∧
      t.pending = []) ∧
  (∀ s : State, s.pending = [] → s.powered = true → s.clock.advances = true → s.clock.phase = 19 →
    s.station.state = .done →
    ∃ t, step s = .next t ∧ t.clock.tick = s.clock.tick + 1 ∧ t.clock.phase = 0 ∧ t.queue.entries = s.queue.entries ∧
      t.chords = s.chords ∧ t.tally = s.tally ∧ t.reports = s.reports ∧ t.station.state = .done ∧ t.pending = []) ∧
  (∀ s : State, s.pending = [] → s.powered = true → s.station.state ≠ .startup → s.line.assembly.isSome = true →
    s.line.inFlight = none →
    ∃ t, step s = .next t ∧
      (s.line.highCount < 2 →
        t.line = { s.line with highCount := s.line.highCount + 1 } ∧
          t.queue.pendingInsertion = s.queue.pendingInsertion) ∧
      (2 ≤ s.line.highCount →
        t.line = { s.line with state := .receiving, highCount := min 16 (s.line.highCount + 1), lastSender := false,
                               assembly := none, decision := none } ∧
          t.queue.pendingInsertion = none))

/-- Every command, in every state, answers a next state with the waiting queue as it was; without supply only a RESET does
anything (R128; notes/assumptions/18.md). -/
def Obligations.EveryCommandAnswers : Prop :=
  ∀ (c : Instr) (s : State), ∃ t, exec c s = .next t ∧ t.pending = s.pending ∧
    (s.powered = false → (∀ p, c ≠ .reset p) → t = s)

/-- What few events may write: the straps only a RESET or RESTART (R110), the judging parameters and the note value only
these and a START (R50, R94), the working settings only a WRITE and the SETTINGS_LOAD (R125, R126, R127), the non-volatile
copy only STORE_COMPLETE and what abandons a STORE (R126, R128). -/
def Obligations.GuardedRegisters : Prop :=
  ∀ (c : Instr) (s t : State), exec c s = .next t →
    (t.straps ≠ s.straps → (∃ p, c = .reset p) ∨ ∃ a p q, c = .restart a p q) ∧
    (t.judge ≠ s.judge ∨ t.tally.noteValue ≠ s.tally.noteValue →
      (∃ p, c = .reset p) ∨ (∃ a p q, c = .restart a p q) ∨ ∃ f p, c = .start f p) ∧
    (t.settings.working ≠ s.settings.working → c = .settingsLoad ∨ ∃ f p, c = .write f p) ∧
    (t.settings.nv ≠ s.settings.nv →
      c = .storeComplete ∨ c = .powerLoss ∨ (∃ p, c = .reset p) ∨ ∃ a p q, c = .restart a p q)

/-- A received frame taken at its acknowledge cell and then at its end-of-frame comes to what the whole frame comes to, where
no tick boundary falls inside the acknowledge cell (the model's choice of frame points, notes/assumptions/7.md). -/
def Obligations.TwoPointsMakeAWhole : Prop :=
  ∀ (c : Instr) (s t : State), c.frame.isSome = true → (s.clock.advances = true → s.clock.phase ≠ 19) →
    exec (c.atPoint .ackCell) s = .next t → exec (c.atPoint .endOfFrame) t = exec (c.atPoint .whole) s

/-! ### Reset, start-up, supply -/

/-- The values the manual gives the blocks after a reset (R3, R7, R9, R11, R19, R44, R48, R50, R75, R92, R93, R94, R96, R109,
R130, R169), and that every invariant of the station holds there, so that each run from reset keeps them. -/
def Obligations.ResetValues : Prop :=
  (State.reset.station = ⟨.startup, .noFault, 0, 0, none⟩ ∧
   State.reset.clock = ⟨0, 0, false, false, some 256, false, false⟩ ∧
   State.reset.queue = ⟨[], none, 0, .noRefusal⟩ ∧
   State.reset.judge = ⟨60, 120, 240, 480, 200⟩ ∧
   State.reset.chords = [] ∧ State.reset.reports = [] ∧
   State.reset.tally = ⟨⟨0, 0, 0, 0⟩, false, true, ⟨0, 0, 0, 0, 0, 0, 0⟩, 1⟩ ∧
   State.reset.line = ⟨.lineBreak, 0, false, none, none, none, none⟩ ∧
   State.reset.sense.detector = .released ∧ State.reset.sense.load = 0 ∧ State.reset.sense.drift = 0 ∧
   (∀ i, (State.reset.sense.zones.get i).raw = 0 ∧ (State.reset.sense.zones.get i).baseline = 0 ∧
     (State.reset.sense.zones.get i).railCount = 0 ∧ (State.reset.sense.zones.get i).insideCount = 0) ∧
   State.reset.lamp.flash = none ∧ State.reset.lamp.pattern = .noPattern ∧
   (∀ i, State.reset.lamp.channels.get i = ⟨false, 0, false, 0⟩)) ∧
  (State.sound State.reset = true)

/-- RESET, from any state: every block at its reset values, the straps as read, a STORE in progress abandoned with a copy whose
CRC does not hold; without one the Settings Store keeps what it held until the load (R124, R126, R128; notes/assumptions/11.md).
POWER_LOSS: a STORE in progress ends the same way, the line and the lamps are released, a frame in flight or followed ends as an
aborted one does, and everything else stands (R97, R128; notes/assumptions/14.md, 18.md). -/
def Obligations.ResetAndPowerLoss : Prop :=
  (∀ (p : Straps) (s : State), ∃ t, exec (.reset p) s = .next t ∧
     t = { State.reset with straps := p, settings := t.settings, freeCount := t.freeCount, pending := s.pending } ∧
     t.settings.job = none ∧ t.settings.working = s.settings.working ∧
     (s.settings.job = none → t.settings = s.settings) ∧ (s.settings.job ≠ none → t.settings.nv.holds = false)) ∧
  (∀ s : State, s.powered = true → ∃ t, exec .powerLoss s = .next t ∧
     t = { s with powered := false, settings := t.settings, queue := { s.queue with pendingInsertion := none },
                  reports := if (evictedKey s).isSome then s.reports.tail else s.reports, line := t.line, lamp := t.lamp,
                  freeCount := t.freeCount } ∧
     t.line.inFlight = none ∧ t.line.assembly = none ∧ t.line.decision = none ∧ t.line.statusSlot = s.line.statusSlot ∧
     (∀ i, (t.lamp.channels.get i).duty = 0) ∧ t.settings.job = none ∧
     (s.settings.job = none → t.settings = s.settings) ∧ (s.settings.job ≠ none → t.settings.nv.holds = false))

/-- SETTINGS_LOAD in STARTUP: the stored values, each clamped to its range, if the CRC of the copy holds (over the model's
layout, notes/assumptions/10.md), else the defaults with the defaulted flag set; the zone conditions and the lamp colours
follow, and the sample timer starts, at a full period so that the first sample is due at once (R1, R3, R126, R169;
notes/assumptions/36.md). -/
def Obligations.SettingsLoaded : Prop :=
  ∀ s : State, s.powered = true → s.station.state = .startup → s.sense.sampleTimer = none →
    ∃ t, exec .settingsLoad s = .next t ∧
      t = { s with settings := t.settings, sense := t.sense, lamp := t.lamp } ∧
      t.settings = { s.settings with working := t.settings.working, defaulted := !s.settings.nv.holds } ∧
      (s.settings.nv.holds = true →
        let v := fun id => (s.settings.nv.fields.getD id 0).toNat
        t.settings.working =
          { press := min 16380 (v 0), release := min 16380 (v 1), zoneSet := min 15 (v 2),
            inputOffset := max (-400) (min 400 (s.settings.nv.fields.getD 3 0).toInt),
            idleColour := ⟨min 4095 (v 4), min 4095 (v 5), min 4095 (v 6), min 4095 (v 7)⟩,
            pressColour := ⟨min 4095 (v 8), min 4095 (v 9), min 4095 (v 10), min 4095 (v 11)⟩ }) ∧
      (s.settings.nv.holds = false → t.settings.working = ⟨600, 300, 15, 0, ⟨0, 0, 0, 256⟩, ⟨0, 0, 0, 4095⟩⟩) ∧
      t.sense = { s.sense with zones := t.sense.zones, sampleTimer := some 40 } ∧
      (∀ i, t.sense.zones.get i = { s.sense.zones.get i with
        condition := if t.settings.working.zoneSet.testBit i.val then .healthy else .off }) ∧
      t.lamp = { s.lamp with base := t.settings.working.idleColour, press := t.settings.working.pressColour }

/-- STORE_COMPLETE with a STORE in progress: the copy holds the settings as they stood when the STORE began, its CRC holds
(over the model's layout, notes/assumptions/10.md), the busy indication ends and the defaulted flag is cleared; and a load of
that copy gives those settings back (R126, R128). -/
def Obligations.StoreCompletes : Prop :=
  ∀ (s : State) (j : StoreJob), s.powered = true → s.settings.job = some j → j.snapshot.sound = true →
    ∃ t, exec .storeComplete s = .next t ∧ t = { s with settings := t.settings } ∧
      t.settings.working = s.settings.working ∧ t.settings.job = none ∧ t.settings.defaulted = false ∧
      t.settings.nv.holds = true ∧ t.settings.nv.settings = j.snapshot

/-- STARTUP_END, once 32 samples are taken: IDLE for a panel strap of 0..8; FAULT with cause STRAP for 9..15, the line cut off
and the FAULT STRAP pattern at its start (R111, R123, R171). -/
def Obligations.StartupEnds : Prop :=
  ∀ s : State, s.powered = true → s.station.state = .startup → 32 ≤ s.sense.samples →
    (s.straps.panel.toNat ≤ 8 →
      exec .startupEnd s = .next { s with station := { s.station with state := .idle, silence := none } }) ∧
    (9 ≤ s.straps.panel.toNat →
      ∃ t, exec .startupEnd s = .next t ∧
        t = { s with station := { s.station with state := .fault, cause := .strap, silence := none }, queue := t.queue,
                     clock := { s.clock with running := false, markPending := false }, chords := [], reports := [],
                     line := t.line, lamp := { s.lamp with pattern := .faultStrap, patternTimer := 0 } } ∧
        t.queue = { s.queue with entries := [], pendingInsertion := none } ∧
        t.line.statusSlot = none ∧ t.line.inFlight = none ∧ t.line.assembly = none)

/-! ### Sensing -/

/-- SAMPLE but the first after a reset, stages 1, 2 and 4, in STARTUP as outside it (R1, R2, R5, R6, R7, R9, R16): readings stored,
rail and inside counts, conditions that change at a count of 200, and the load over the zones HEALTHY then; and with the detector
left RELEASED at a drift count of 15, every HEALTHY baseline one count toward its reading, else no baseline moves by tracking. -/
def Obligations.SampleReadsZones : Prop :=
  ∀ (raws : Quad (BitVec 12)) (s : State), s.powered = true → s.sense.sampleTimer.isSome = true → s.sense.samples ≠ 0 →
    (s.station.state = .startup → s.sense.samples < 32) →
    ∃ t, exec (.sample raws) s = .next t ∧
      (∀ i : Fin 4,
        let z := (s.sense.zones.get i).afterStage1 (raws.get i).toNat
        t.sense.zones.get i = if t.sense.detector = .released ∧ 15 ≤ s.sense.drift then z.afterTracking else z) ∧
      t.sense.load = loadAfterStage1 raws s ∧
      t.sense.drift = (if t.sense.detector = .released then if 15 ≤ s.sense.drift then 0 else s.sense.drift + 1 else 0) ∧
      t.sense.samples = min 32 (s.sense.samples + 1) ∧ t.sense.sampleTimer = some 0 ∧
      t.clock = s.clock ∧ t.station = s.station ∧ t.settings = s.settings ∧ t.tally = s.tally ∧ t.judge = s.judge ∧
      t.straps = s.straps

/-- SAMPLE in STARTUP (R3, R5, R6, R7, R8, R9, R16): the detector takes no part and stays as it is, and nothing but the Sense Unit
changes. The first sample sets every baseline to its reading, with a load of 0 and the drift count as it was; the counts follow
the reading as at any sample. After the first, tracking runs as at any sample with the detector RELEASED. -/
def Obligations.SampleInStartup : Prop :=
  ∀ (raws : Quad (BitVec 12)) (s : State), s.powered = true → s.sense.sampleTimer.isSome = true →
    s.station.state = .startup → s.sense.samples < 32 →
    ∃ t, exec (.sample raws) s = .next t ∧ t = { s with sense := t.sense } ∧ t.sense.detector = s.sense.detector ∧
      t.sense.samples = s.sense.samples + 1 ∧ t.sense.sampleTimer = some 0 ∧
      (let z := fun i : Fin 4 => (s.sense.zones.get i).afterStage1 (raws.get i).toNat
       (s.sense.samples = 0 → t.sense.load = 0 ∧ t.sense.drift = s.sense.drift ∧
         ∀ i, t.sense.zones.get i = { z i with baseline := (raws.get i).toNat }) ∧
       (s.sense.samples ≠ 0 → s.sense.detector = .released → t.sense.load = loadAfterStage1 raws s ∧
         (s.sense.drift < 15 → t.sense.drift = s.sense.drift + 1 ∧ ∀ i, t.sense.zones.get i = z i) ∧
         (15 ≤ s.sense.drift → t.sense.drift = 0 ∧ ∀ i, t.sense.zones.get i = (z i).afterTracking)))

/-- SAMPLE outside STARTUP, stages 3 and 4 (R9, R10, R12, R13, R14, R15): the transition of the detector against the load just found,
with the effective thresholds, and the drift count behind it. The second sample at or above the press threshold hands the press to
the Judge Unit, the third below the release threshold the release, each with its stamp; at any other sample nothing but the Sense
Unit changes. PRESS and RELEASE are the samples that do so on the readings the zones hold, and where that sample would not they do
nothing (the model's choice, notes/assumptions/3.md). -/
def Obligations.SampleMovesDetector : Prop :=
  ∀ (raws : Quad (BitVec 12)) (s : State), s.powered = true → s.sense.sampleTimer.isSome = true →
    s.station.state ≠ .startup → s.sense.samples ≠ 0 →
    ∃ t, exec (.sample raws) s = .next t ∧
      (let c := s.settings.working
       let p := if c.press = 0 then 1 else c.press
       let q := if c.release < p then c.release else p / 2
       let load := t.sense.load
       let d := s.sense.detector
       let pressed := (∃ k, d = .pressing k) ∧ p ≤ load
       let released := (∃ k, d = .releasing k .two) ∧ load < q
       (d = .released → p ≤ load → t.sense.detector = .pressing s.clock.tick) ∧
       (d = .released → load < p → t.sense.detector = .released) ∧
       (∀ k, d = .pressing k → p ≤ load → t.sense.detector = .pressed ∧ t = { emitPress k s with sense := t.sense }) ∧
       (∀ k, d = .pressing k → load < p → t.sense.detector = .released) ∧
       (d = .pressed → q ≤ load → t.sense.detector = .pressed) ∧
       (d = .pressed → load < q → t.sense.detector = .releasing s.clock.tick .one) ∧
       (∀ k n, d = .releasing k n → q ≤ load → t.sense.detector = .pressed) ∧
       (∀ k, d = .releasing k .one → load < q → t.sense.detector = .releasing k .two) ∧
       (∀ k, d = .releasing k .two → load < q →
         t.sense.detector = .released ∧ t = { emitRelease k s with sense := t.sense }) ∧
       (¬pressed → ¬released → t = { s with sense := t.sense }) ∧
       ((∀ i : Fin 4, (raws.get i).toNat = (s.sense.zones.get i).raw) →
         (pressed → exec .press s = .next t) ∧ (¬pressed → exec .press s = .next s) ∧
         (released → exec .release s = .next t) ∧ (¬released → exec .release s = .next s))) ∧
      (t.sense.detector ≠ .released → t.sense.drift = 0) ∧
      (t.sense.detector = .released → t.sense.drift = if 15 ≤ s.sense.drift then 0 else s.sense.drift + 1)

/-- An event of the zones taken under its own name (notes/assumptions/3.md): ZONE_FAULT of a HEALTHY zone whose rail count has
reached 200, ZONE_RECOVERY of a FAULTY zone whose inside count has (R5, R6); and BASELINE_TRACKING, the SAMPLE on the readings the
zones hold that finds a RELEASED detector at a full drift count: stages 1 and 2, then every HEALTHY baseline one count toward its
reading, and the count back to 0; where the count would not reach 16, nothing happens (R9). -/
def Obligations.ZoneEvents : Prop :=
  (∀ (i : Fin 4) (s : State), s.powered = true → (s.sense.zones.get i).condition = .healthy →
    200 ≤ (s.sense.zones.get i).railCount →
    ∃ t, exec (.zoneFault i) s = .next t ∧ t = { s with sense := { s.sense with zones := t.sense.zones } } ∧
      t.sense.zones.get i = { s.sense.zones.get i with condition := .faulty, railCount := 0, insideCount := 0 } ∧
      ∀ k, k ≠ i → t.sense.zones.get k = s.sense.zones.get k) ∧
  (∀ (i : Fin 4) (s : State), s.powered = true → (s.sense.zones.get i).condition = .faulty →
    200 ≤ (s.sense.zones.get i).insideCount →
    ∃ t, exec (.zoneRecovery i) s = .next t ∧ t = { s with sense := { s.sense with zones := t.sense.zones } } ∧
      t.sense.zones.get i =
        { s.sense.zones.get i with condition := .healthy, baseline := (s.sense.zones.get i).raw, railCount := 0,
                                   insideCount := 0 } ∧
      ∀ k, k ≠ i → t.sense.zones.get k = s.sense.zones.get k) ∧
  (∀ (raws : Quad (BitVec 12)) (s : State), s.powered = true → s.sense.sampleTimer.isSome = true → s.sense.samples ≠ 0 →
    s.sense.detector = .released → (s.station.state = .startup → s.sense.samples < 32) →
    (s.station.state ≠ .startup → loadAfterStage1 raws s < s.settings.working.effectivePress) →
    let held := ∀ i : Fin 4, (raws.get i).toNat = (s.sense.zones.get i).raw
    (15 ≤ s.sense.drift →
      ∃ t, exec (.sample raws) s = .next t ∧ (held → exec .baselineTracking s = .next t) ∧
        t = { s with sense := { s.sense with zones := t.sense.zones, load := loadAfterStage1 raws s, drift := 0,
                                             sampleTimer := some 0, samples := min 32 (s.sense.samples + 1) } } ∧
        ∀ i, t.sense.zones.get i = ((s.sense.zones.get i).afterStage1 (raws.get i).toNat).afterTracking) ∧
    (s.sense.drift < 15 → held → exec .baselineTracking s = .next s))

/-! ### Presses and releases -/

/-- The size of a matched press's offset, whatever its sign, decides its grade, and a matched press is never MISS (R55). -/
def Obligations.GradeOfOffset : Prop :=
  ∀ (j : JudgeParams) (time due : Nat), ∃ g, strike j time due = .struck ((time : Int) - (due : Int)) g ∧
    (let size := ((time : Int) - (due : Int)).natAbs
     (size ≤ j.e → g = .exact) ∧ (j.e < size → size ≤ j.t → g = .tight) ∧
     (j.e < size → j.t < size → size ≤ j.n → g = .near) ∧ (j.e < size → j.t < size → j.n < size → g = .wide)) ∧
    g ≠ .miss

/-- The SAMPLE that confirms a press, and PRESS, which is that sample on the readings the zones hold (notes/assumptions/3.md), in
PLAYING or LOST with no hold slipping, matched to a WAITING TAP of this station: the first of the queue whose due lies within the
wide window. The entry is JUDGED, its chord is told its grade (here where the Chord Table need not evict), its TAP item joins the
report list, and the lamps flash (R12, R51, R54, R55, R56, R70, R77, R172). -/
def Obligations.PressMatchesTap : Prop :=
  ∀ (raws : Quad (BitVec 12)) (s : State) (k : Nat) (e : NoteEntry) (before after : List NoteEntry),
    s.powered = true → s.sense.sampleTimer.isSome = true → s.sense.samples ≠ 0 →
    (s.station.state = .playing ∨ s.station.state = .lost) →
    s.sense.detector = .pressing k → s.settings.working.effectivePress ≤ loadAfterStage1 raws s →
    s.queue.entries = before ++ e :: after → (∀ x ∈ s.queue.entries, x.state.isSlipping = false) →
    (∀ x ∈ before, x.state.isWaiting = true → s.judge.w < tickDistance (s.adjust k) x.due) →
    e.state = .waiting → tickDistance (s.adjust k) e.due ≤ s.judge.w → e.kind = .tap → s.hasRoomFor e = true →
    let offset : Int := (s.adjust k : Int) - (e.due : Int)
    let g := gradeOf s.judge offset.natAbs
    let held := ∀ i : Fin 4, (raws.get i).toNat = (s.sense.zones.get i).raw
    let taken := fun u : State => ∃ t, exec (.sample raws) s = .next t ∧ (held → exec .press s = .next t) ∧
      t.sense.detector = .pressed ∧ t = { u with sense := t.sense }
    taken { s with
      queue := { s.queue with entries := s.queue.entries.map fun x =>
        if x.due = e.due then { x with state := .judged, head := some (.struck offset g) } else x }
      chords := s.chordsTold e g
      reports := s.reports ++ [⟨.tap, e.due⟩]
      lamp := { s.lamp with flash := some ⟨flashColour (.grade g), 16, 0⟩ } }

/-- The SAMPLE that confirms a press, and PRESS (notes/assumptions/3.md), matched to a WAITING HOLD, single or of a chord: HOLDING
with its HEAD item and flash, its chord told the grade (here where the Chord Table need not evict); JUDGED at once with tail OK and
a TAIL item behind the HEAD item when the adjusted clock has already reached the hold's end (R12, R54, R55, R57, R64, R70, R77,
R172). -/
def Obligations.PressMatchesHold : Prop :=
  ∀ (raws : Quad (BitVec 12)) (s : State) (k n : Nat) (e : NoteEntry) (before after : List NoteEntry),
    s.powered = true → s.sense.sampleTimer.isSome = true → s.sense.samples ≠ 0 →
    (s.station.state = .playing ∨ s.station.state = .lost) →
    s.sense.detector = .pressing k → s.settings.working.effectivePress ≤ loadAfterStage1 raws s →
    s.queue.entries = before ++ e :: after → (∀ x ∈ s.queue.entries, x.state.isSlipping = false) →
    (∀ x ∈ before, x.state.isWaiting = true → s.judge.w < tickDistance (s.adjust k) x.due) →
    e.state = .waiting → tickDistance (s.adjust k) e.due ≤ s.judge.w → e.kind = .hold n → s.hasRoomFor e = true →
    let offset : Int := (s.adjust k : Int) - (e.due : Int)
    let g := gradeOf s.judge offset.natAbs
    let ended := e.due + n ≤ s.adjClock
    let held := ∀ i : Fin 4, (raws.get i).toNat = (s.sense.zones.get i).raw
    let taken := fun u : State => ∃ t, exec (.sample raws) s = .next t ∧ (held → exec .press s = .next t) ∧
      t.sense.detector = .pressed ∧ t = { u with sense := t.sense }
    taken { s with
      queue := { s.queue with entries := s.queue.entries.map fun x =>
        if x.due = e.due then
          if ended then { x with state := .judged, head := some (.struck offset g), headSent := false, tail := some .ok }
          else { x with state := .holding, head := some (.struck offset g), headSent := false }
        else x }
      chords := s.chordsTold e g
      reports := s.reports ++ (if ended then [⟨.head, e.due⟩, ⟨.tail, e.due⟩] else [⟨.head, e.due⟩])
      lamp := { s.lamp with flash := some ⟨flashColour (if ended then .hold .ok else .grade g), 16, 0⟩ } }

/-- The SAMPLE that confirms a press, and PRESS (notes/assumptions/3.md), otherwise: outside PLAYING and LOST it goes to the lamps
only; a slipping hold takes it back to HOLDING with nothing else; and with no slipping hold and no note within reach it is a stray
(R12, R15, R52, R53, R58). -/
def Obligations.PressRegripsOrStrays : Prop :=
  ∀ (raws : Quad (BitVec 12)) (s : State) (k : Nat), s.powered = true → s.sense.sampleTimer.isSome = true →
    s.sense.samples ≠ 0 → s.station.state ≠ .startup →
    s.sense.detector = .pressing k → s.settings.working.effectivePress ≤ loadAfterStage1 raws s →
    let held := ∀ i : Fin 4, (raws.get i).toNat = (s.sense.zones.get i).raw
    let taken := fun u : State => ∃ t, exec (.sample raws) s = .next t ∧ (held → exec .press s = .next t) ∧
      t.sense.detector = .pressed ∧ t = { u with sense := t.sense }
    (s.station.state ≠ .playing → s.station.state ≠ .lost → taken s) ∧
    (∀ e before after, (s.station.state = .playing ∨ s.station.state = .lost) →
      s.queue.entries = before ++ e :: after → (∀ x ∈ before, x.state.isSlipping = false) → e.state.isSlipping = true →
      taken { s with
        queue := { s.queue with entries := s.queue.entries.map fun x =>
          if x.due = e.due then { x with state := .holding } else x } }) ∧
    ((∀ x ∈ s.queue.entries, x.state.isSlipping = false ∧
        (x.state.isWaiting = true → s.judge.w < tickDistance (s.adjust k) x.due)) →
      taken s)

/-- The SAMPLE that confirms a release, the third low one, and RELEASE (notes/assumptions/3.md): outside PLAYING and LOST, or with
no hold held, only the Sense Unit changes; a HOLDING entry slips from the adjusted time of the release, or ends NG at once when the
adjusted clock has already run out its grace (R13, R15, R59, R65; at a hold grace of 0 with the clock clamped this is the model's
choice, notes/assumptions/38.md). -/
def Obligations.ReleaseSlips : Prop :=
  ∀ (raws : Quad (BitVec 12)) (s : State) (k : Nat), s.powered = true → s.sense.sampleTimer.isSome = true →
    s.sense.samples ≠ 0 → s.station.state ≠ .startup →
    s.sense.detector = .releasing k .two → loadAfterStage1 raws s < s.settings.working.effectiveRelease →
    let held := ∀ i : Fin 4, (raws.get i).toNat = (s.sense.zones.get i).raw
    let taken := fun u : State => ∃ t, exec (.sample raws) s = .next t ∧ (held → exec .release s = .next t) ∧
      t.sense.detector = .released ∧ t = { u with sense := t.sense }
    ((s.station.state ≠ .playing ∧ s.station.state ≠ .lost) ∨ (∀ x ∈ s.queue.entries, x.state.isHolding = false) → taken s) ∧
    (∀ e before after, (s.station.state = .playing ∨ s.station.state = .lost) →
      s.queue.entries = before ++ e :: after → (∀ x ∈ before, x.state.isHolding = false) → e.state.isHolding = true →
      (s.adjClock ≤ s.adjust k + s.judge.g →
        taken { s with
          queue := { s.queue with entries := s.queue.entries.map fun x =>
            if x.due = e.due then { x with state := .slipping (s.adjust k) } else x } }) ∧
      (s.adjust k + s.judge.g < s.adjClock →
        taken { s with
          queue := { s.queue with entries := s.queue.entries.map fun x =>
            if x.due = e.due then { x with state := .judged, tail := some .ng } else x }
          reports := s.reports ++ [⟨.tail, e.due⟩]
          lamp := { s.lamp with flash := some ⟨flashColour (.hold .ng), 16, 0⟩ } }))

/-! ### Song time -/

/-- TICK_ADVANCE where no threshold is passed: the tick one up and the phase 0; the MARK slot pending when the tick has reached
the next mark point; saturation at 16,777,215; and DONE, in PLAYING only, when its condition holds at the new tick (R20, R22, R24,
R30, R120). In PLAYING and LOST every threshold the advance passes is taken, in the order of `passed`, each in the state left by those
before it, and the DONE condition is examined behind them (R30, R61, R68, R85, R120).
So the tick at which the adjusted clock reaches due + w + 5 is the tick at which a WAITING TAP, the one note left, lapses: the
advance judges it MISS, reports it and flashes it (R30, R61, R62). -/
def Obligations.TickAdvances : Prop :=
  let advanced := fun c : SongClock =>
    if c.tick + 1 = 16777215 then
      { c with tick := c.tick + 1, phase := 0, saturated := true, nextMark := none, markPending := false }
    else
      { c with tick := c.tick + 1, phase := 0,
               markPending := c.markPending || c.nextMark.any fun m => decide (m ≤ c.tick + 1) }
  let examined := fun (adj : Nat) (v : State) =>
    if v.station.state = .playing ∧ v.station.endTime ≤ adj ∧ v.queue.entries = [] ∧ v.queue.pendingInsertion = none ∧
        v.reports = [] ∧ v.chords = [] then
      { v with station := { v.station with state := .done, silence := none } }
    else v
  (∀ s : State, s.powered = true → s.clock.running = true → s.clock.saturated = false → s.clock.tick < maxTick →
     (s.station.state.judges = true → passed (s.adjust s.clock.tick) (s.adjust (s.clock.tick + 1)) s = []) →
     exec .tickAdvance s = .next (examined (s.adjust (s.clock.tick + 1)) { s with clock := advanced s.clock })) ∧
  (∀ s : State, s.powered = true → s.clock.running = true → s.clock.saturated = false → s.clock.tick < maxTick →
     (s.station.state = .playing ∨ s.station.state = .lost) →
     exec .tickAdvance s = .next (examined (s.adjust (s.clock.tick + 1))
       ((passed (s.adjust s.clock.tick) (s.adjust (s.clock.tick + 1)) s).foldl takeThreshold
         { s with clock := advanced s.clock }))) ∧
  (∀ (s : State) (e : NoteEntry), s.powered = true → s.clock.running = true → s.clock.saturated = false →
     s.clock.tick < maxTick → (s.station.state = .playing ∨ s.station.state = .lost) → s.chords = [] →
     s.queue.entries = [e] → e.state = .waiting → e.kind = .tap → e.partners = [] →
     s.adjust s.clock.tick < e.due + s.judge.w + 5 → e.due + s.judge.w + 5 ≤ s.adjust (s.clock.tick + 1) →
     ∃ t, exec .tickAdvance s = .next t ∧ t.clock.tick = s.clock.tick + 1 ∧ t.clock.phase = 0 ∧ t.station = s.station ∧
       t.queue = { s.queue with entries := [{ e with state := .judged, head := some .lapse }] } ∧
       t.reports = s.reports ++ [⟨.tap, e.due⟩] ∧ t.lamp = { s.lamp with flash := some ⟨⟨4095, 0, 0, 0⟩, 16, 0⟩ } ∧
       t.chords = [] ∧ t.tally = s.tally ∧ t.line = s.line ∧ t.sense = s.sense ∧ t.settings = s.settings)

/-- The thresholds of a station and their fall times: a WAITING note lapses at due + w + 5, a hold held or slipping ends at due + its
length, a slip runs out at slip-start + g + 1, a record is closed by force at key + w + 205 (R61, R85). Those an advance passes are
exactly those whose fall time lies after the old and not after the new adjusted clock, and they are taken in the order of fall time,
the Judge Unit before the Chord Table, then due time, and a hold end before a grace expiry (R30, R61, R65, R68). One whose fall time
has come, and that stands before any other of its entry, is taken as LAPSE, HOLD_END, GRACE_EXPIRY or FORCED_CLOSE_POINT takes it
(notes/assumptions/3.md). -/
def Obligations.ThresholdsInOrder : Prop :=
  (∀ (x : Threshold) (s : State), x ∈ thresholds s ↔
    (∃ e ∈ s.queue.entries,
      (e.state = .waiting ∧ x = ⟨e.due + s.judge.w + 5, .lapse, e.due⟩) ∨
      ∃ n, e.kind = .hold n ∧
        (((e.state = .holding ∨ ∃ k, e.state = .slipping k) ∧ x = ⟨e.due + n, .holdEnd, e.due⟩) ∨
          ∃ k, e.state = .slipping k ∧ x = ⟨k + s.judge.g + 1, .grace, e.due⟩)) ∨
    ∃ r ∈ s.chords, x = ⟨r.key + s.judge.w + 205, .forced, r.key⟩) ∧
  (∀ (old new : Nat) (s : State),
    (∀ x, x ∈ passed old new s ↔ x ∈ thresholds s ∧ old < x.fall ∧ x.fall ≤ new) ∧
    (passed old new s).length = ((thresholds s).filter fun x => decide (old < x.fall ∧ x.fall ≤ new)).length ∧
    (passed old new s).Pairwise fun x y =>
      x.fall < y.fall ∨ x.fall = y.fall ∧
        (x.kind ≠ .forced ∧ y.kind = .forced ∨ (x.kind = .forced ↔ y.kind = .forced) ∧
          (x.due < y.due ∨ x.due = y.due ∧ (x.kind = .grace → y.kind ≠ .holdEnd)))) ∧
  (∀ (x : Threshold) (s : State), s.powered = true → (s.station.state = .playing ∨ s.station.state = .lost) →
    queueSound s = true → x ∈ thresholds s → x.fall ≤ s.adjClock →
    (x.kind = .forced ∨ ∀ y ∈ thresholds s, y.due = x.due → y.kind ≠ .forced → x.le y = true) →
    exec x.command s = .next (takeThreshold s x))

/-- Events of a timer or counter taken on their own (notes/assumptions/3.md, 5.md). MARK_POINT and SATURATION: the slot pending once
the tick of a running, unsaturated clock has reached the next mark point; the clock saturated once its tick is 16,777,215 (R22,
R24). SILENCE_TIMEOUT in PLAYING: LOST, with the timer stopped and the LOST pattern on the lamps; everything else goes on; outside
PLAYING nothing happens (R72, R88, R117, R118). FLASH_STEP and FAULT_PATTERN_TIMER: the remaining steps fall by one and the flash
is absent after its last; the pattern timer goes to the start of the other half of its cycle, in FAULT only (R171, R172). -/
def Obligations.TimedEvents : Prop :=
  ((∀ (s : State) (m : Nat), s.powered = true → s.clock.running = true → s.clock.saturated = false →
     s.clock.nextMark = some m → m ≤ s.clock.tick →
     exec .markPoint s = .next { s with clock := { s.clock with markPending := true } }) ∧
   (∀ s : State, s.powered = true → s.clock.running = true → s.clock.tick = 16777215 →
     exec .saturation s = .next
       { s with clock := { s.clock with phase := 0, saturated := true, nextMark := none, markPending := false } })) ∧
  (∀ s : State, s.powered = true →
     (s.station.state = .playing → s.station.silence.isSome = true →
       exec .silenceTimeout s = .next { s with
         station := { s.station with state := .lost, silence := none }, lamp := { s.lamp with pattern := .lost } }) ∧
     (s.station.state ≠ .playing → exec .silenceTimeout s = .next s)) ∧
  (∀ s : State, s.powered = true →
     (∀ f : Flash, s.lamp.flash = some f → 2 ≤ f.steps →
       exec .flashStep s = .next { s with lamp := { s.lamp with flash := some ⟨f.colour, f.steps - 1, 0⟩ } }) ∧
     (∀ f : Flash, s.lamp.flash = some f → f.steps = 1 →
       exec .flashStep s = .next { s with lamp := { s.lamp with flash := none } }) ∧
     ((s.lamp.pattern = .faultDuplicate ∨ s.lamp.pattern = .faultStrap) →
       exec .faultPatternTimer s = .next { s with
         lamp := { s.lamp with patternTimer := if s.lamp.patternTimer < 20000 then 20000 else 0 } }) ∧
     (s.lamp.pattern ≠ .faultDuplicate → s.lamp.pattern ≠ .faultStrap → exec .faultPatternTimer s = .next s))

/-- MARK heard, carrying `m` (R22, R27, R28, R29): with the clock stopped it does no more than any frame heard; with the clock
not earlier than the target the slot is emptied and the next mark point formed afresh; with it earlier the clock is at the
target, saturated if that is the limit, with the slip flag set by a step of more than 640 cells. In PLAYING and LOST a step that
moves the tick takes every threshold it passes, in the order of `passed`, and DONE is examined behind them; then Station Control is
told of the frame (R30, R61, R68, R85, R117, R119, R120). -/
def Obligations.MarkHeard : Prop :=
  ∀ (s : State) (f : MarkFrame), s.hears (.mark f) = true →
    let target : Nat × Nat := if 16777215 ≤ f.tick.toNat + 2 then (16777215, 0) else (f.tick.toNat + 2, 9)
    let after := fun tick : Nat => if (tick / 256 + 1) * 256 ≤ 16776960 then some ((tick / 256 + 1) * 256) else none
    let behind := s.clock.tick < target.1 ∨ s.clock.tick = target.1 ∧ s.clock.phase < target.2
    (s.clock.running = false → exec (.mark f .whole) s = .next s.afterHeard) ∧
    (s.clock.running = true → ¬behind →
      exec (.mark f .whole) s = .next { s.afterHeard with
        clock := { s.clock with markPending := false, nextMark := after s.clock.tick } }) ∧
    (s.clock.running = true → behind →
      let stepped : State := { s with
        queue := { s.queue with pendingInsertion := none }, line := s.lineAfterHeard
        clock := { s.clock with
          tick := target.1, phase := target.2, markPending := false, nextMark := after target.1,
          saturated := s.clock.saturated || target.1 == 16777215,
          slip := s.clock.slip || decide (640 < (target.1 * 20 + target.2) - (s.clock.tick * 20 + s.clock.phase)) } }
      let taken := if s.clock.tick < target.1 ∧ (s.station.state = .playing ∨ s.station.state = .lost) then
          (passed (s.adjust s.clock.tick) (s.adjust target.1) s).foldl takeThreshold stepped
        else stepped
      let done := s.clock.tick < target.1 ∧ s.station.state = .playing ∧ s.station.endTime ≤ s.adjust target.1 ∧
        taken.queue.entries = [] ∧ taken.reports = [] ∧ taken.chords = []
      exec (.mark f .whole) s = .next { taken with
        station := if done then { s.station with state := .done, silence := none } else s.stationAfterHeard
        lamp := taken.lampAfterHeard })

/-- Every step keeps the Song Clock sound: in its ranges, running exactly in PLAYING, LOST, FAILED and DONE, saturated only at its
limit, a MARK pending only while it runs unsaturated (R19, R20, R22, R23). Its tick never decreases, but by a START or a reset
(R20, R21). -/
def Obligations.ClockInvariant : Prop :=
  (∀ s t : State, clockSound s = true → step s = .next t → clockSound t = true) ∧
  (∀ s t : State, s.clock.tick ≤ maxTick → step s = .next t → t.clock.tick < s.clock.tick →
     ∃ c rest, s.pending = c :: rest ∧
       ((∃ p, c = .reset p) ∨ (∃ a p q, c = .restart a p q) ∨ ∃ f p, c = .start f p))

/-! ### Thresholds taken on their own -/

/-- LAPSE, taken on its own (notes/assumptions/3.md), of a WAITING entry whose fall time has come, where the Chord Table need not
evict (R61, R62, R63, R77): a TAP is judged MISS with one item; a HOLD is judged MISS and NG at once, with a HEAD and then a TAIL
item and only the flash of NG left to see. -/
def Obligations.LapseTaken : Prop :=
  ∀ (s : State) (e : NoteEntry) (before after : List NoteEntry),
    s.powered = true → (s.station.state = .playing ∨ s.station.state = .lost) →
    s.queue.entries = before ++ e :: after → (∀ x ∈ before, x.due ≠ e.due) → e.state = .waiting →
    e.due + s.judge.w + 5 ≤ s.adjClock → s.hasRoomFor e = true →
    (e.kind = .tap →
      exec (.lapse e.due) s = .next { s with
        queue := { s.queue with entries := s.queue.entries.map fun x =>
          if x.due = e.due then { x with state := .judged, head := some .lapse } else x }
        chords := s.chordsTold e .miss
        reports := s.reports ++ [⟨.tap, e.due⟩]
        lamp := { s.lamp with flash := some ⟨⟨4095, 0, 0, 0⟩, 16, 0⟩ } }) ∧
    (∀ n, e.kind = .hold n →
      exec (.lapse e.due) s = .next { s with
        queue := { s.queue with entries := s.queue.entries.map fun x =>
          if x.due = e.due then { x with state := .judged, head := some .lapse, headSent := false, tail := some .ng } else x }
        chords := s.chordsTold e .miss
        reports := s.reports ++ [⟨.head, e.due⟩, ⟨.tail, e.due⟩]
        lamp := { s.lamp with flash := some ⟨⟨4095, 0, 4095, 0⟩, 16, 0⟩ } })

/-- HOLD_END and GRACE_EXPIRY of an entry, taken on their own (notes/assumptions/3.md; R61, R64, R65): OK once the adjusted clock
has reached the hold's end, unless the grace of a slip fell before it; NG once the grace has run out, unless the hold's end was
reached first or with it. FORCED_CLOSE_POINT of a record whose point has passed (R85): with its own report sent and none pending,
one item joins the report list and the record is pending; otherwise nothing happens. -/
def Obligations.DueThresholdsTaken : Prop :=
  (∀ (s : State) (e : NoteEntry) (n : Nat) (before after : List NoteEntry),
     s.powered = true → (s.station.state = .playing ∨ s.station.state = .lost) →
     s.queue.entries = before ++ e :: after → (∀ x ∈ before, x.due ≠ e.due) → e.kind = .hold n →
     let ended := fun r => { s with
       queue := { s.queue with entries := s.queue.entries.map fun x =>
         if x.due = e.due then { x with state := .judged, tail := some r } else x }
       reports := s.reports ++ [⟨.tail, e.due⟩]
       lamp := { s.lamp with flash := some ⟨flashColour (.hold r), 16, 0⟩ } }
     (e.due + n ≤ s.adjClock →
       (e.state = .holding ∨ ∃ k, e.state = .slipping k ∧ e.due + n ≤ k + s.judge.g + 1) →
       exec (.holdEnd e.due) s = .next (ended .ok)) ∧
     (∀ k, e.state = .slipping k → k + s.judge.g + 1 ≤ s.adjClock →
       (s.adjClock < e.due + n ∨ k + s.judge.g + 1 < e.due + n) →
       exec (.graceExpiry e.due) s = .next (ended .ng))) ∧
  (∀ (s : State) (r : ChordRecord) (before after : List ChordRecord),
     s.powered = true → (s.station.state = .playing ∨ s.station.state = .lost) →
     s.chords = before ++ r :: after → (∀ x ∈ before, x.key ≠ r.key) → r.key + s.judge.w + 205 ≤ s.adjClock →
     (r.ownSent = true → r.forcedPending = false →
       exec (.forcedClosePoint r.key) s = .next { s with
         chords := s.chords.map fun x => if x.key = r.key then { x with forcedPending := true } else x
         reports := s.reports ++ [⟨.forced, r.key⟩] }) ∧
     (r.ownSent = false ∨ r.forcedPending = true → exec (.forcedClosePoint r.key) s = .next s))

/-- A chord head judged with the Chord Table full evicts the record of earliest key for its own: a pending forced close goes with
it, but not while its FORCED frame is in flight, which is then marked (R77, R79, R97). So for a LAPSE and for a press, by SAMPLE and by
PRESS (notes/assumptions/3.md), of a TAP and of a HOLD (R56, R57, R62, R63). -/
def Obligations.FullTableEvicts : Prop :=
  ∀ (raws : Quad (BitVec 12)) (s : State) (k : Nat) (e : NoteEntry) (r : ChordRecord) (before after : List NoteEntry),
    s.powered = true → (s.station.state = .playing ∨ s.station.state = .lost) →
    s.queue.entries = before ++ e :: after → e.state = .waiting → e.partners ≠ [] → e.chordClosed = false →
    s.chords.length = 8 → (∀ x ∈ s.chords, x.key ≠ e.due) → r ∈ s.chords → (∀ x ∈ s.chords, r.key ≤ x.key) →
    (∀ x ∈ s.chords, x.key = r.key → x = r) →
    let judged := fun (change : NoteEntry → NoteEntry) (g : Grade) (items : List ReportItem) (shown : JudgeResult) =>
      let flown := r.forcedPending = true ∧ forcedInFlight r.key s = true
      { s with
        queue := { s.queue with entries := s.queue.entries.map fun x => if x.due = e.due then change x else x }
        chords := (s.chords.filter fun x => x.key != r.key) ++ [⟨e.due, e.partners, [], some g, false, false⟩]
        reports := (if r.forcedPending = true ∧ ¬flown then
            s.reports.filter fun i => !(i.kind == .forced && i.due == r.key) else s.reports) ++ items
        line := if flown then (condemnInFlight s).line else s.line
        lamp := { s.lamp with flash := some ⟨flashColour shown, 16, 0⟩ } }
    ((∀ x ∈ before, x.due ≠ e.due) → e.due + s.judge.w + 5 ≤ s.adjClock →
      (e.kind = .tap →
        exec (.lapse e.due) s = .next (judged (fun x => { x with state := .judged, head := some .lapse }) .miss
          [⟨.tap, e.due⟩] (.grade .miss))) ∧
      (∀ n, e.kind = .hold n →
        exec (.lapse e.due) s = .next (judged
          (fun x => { x with state := .judged, head := some .lapse, headSent := false, tail := some .ng }) .miss
          [⟨.head, e.due⟩, ⟨.tail, e.due⟩] (.hold .ng)))) ∧
    (s.sense.sampleTimer.isSome = true → s.sense.samples ≠ 0 → s.sense.detector = .pressing k →
      s.settings.working.effectivePress ≤ loadAfterStage1 raws s → (∀ x ∈ s.queue.entries, x.state.isSlipping = false) →
      (∀ x ∈ before, x.state.isWaiting = true → s.judge.w < tickDistance (s.adjust k) x.due) →
      tickDistance (s.adjust k) e.due ≤ s.judge.w →
      let offset : Int := (s.adjust k : Int) - (e.due : Int)
      let g := gradeOf s.judge offset.natAbs
      let held := ∀ i : Fin 4, (raws.get i).toNat = (s.sense.zones.get i).raw
      let taken := fun u : State => ∃ t, exec (.sample raws) s = .next t ∧ (held → exec .press s = .next t) ∧
        t.sense.detector = .pressed ∧ t = { u with sense := t.sense }
      (e.kind = .tap →
        taken (judged (fun x => { x with state := .judged, head := some (.struck offset g) }) g [⟨.tap, e.due⟩] (.grade g))) ∧
      (∀ n, e.kind = .hold n →
        (s.adjClock < e.due + n →
          taken (judged (fun x => { x with state := .holding, head := some (.struck offset g), headSent := false }) g
            [⟨.head, e.due⟩] (.grade g))) ∧
        (e.due + n ≤ s.adjClock →
          taken (judged
            (fun x => { x with state := .judged, head := some (.struck offset g), headSent := false, tail := some .ok }) g
            [⟨.head, e.due⟩, ⟨.tail, e.due⟩] (.hold .ok)))))

/-! ### Tallies and own JUDGE frames -/

/-- The new tallies of a closing frame (R98, R99): points by weight, combo, max combo and gauge by the grade or result, each at its
limits; with a note value of at most 10,000 the points are at most 10,000. -/
def Obligations.TallyArithmetic : Prop :=
  ∀ (v : Nat) (p : Replica),
    let after := fun (r : JudgeResult) (weight : Nat) (change : Int) (combo : Nat) =>
      newTallies v r p =
        { score := if 99999999 < p.score + v * weight / 16 then 99999999 else p.score + v * weight / 16
          combo := combo, maxCombo := max p.maxCombo combo
          gauge := if (p.gauge : Int) + change < 0 then 0
            else if 1000 < (p.gauge : Int) + change then 1000 else ((p.gauge : Int) + change).toNat }
    let up := if p.combo < 65535 then p.combo + 1 else 65535
    (p.combo ≤ 65535 →
      after (.grade .exact) 16 10 up ∧ after (.grade .tight) 12 8 up ∧ after (.grade .near) 6 2 up) ∧
    after (.grade .wide) 1 (-10) 0 ∧ after (.grade .miss) 0 (-50) 0 ∧
    after (.hold .ok) 16 5 p.combo ∧ after (.hold .ng) 0 (-50) p.combo ∧ (v ≤ 10000 → ∀ r, points v r ≤ 10000)

/-- JUDGE_SENT with the frame latched and no mismatch, where it fails nobody (R46, R81, R85, R86, R97, R101, R117, R119, R142): the
tallies and the count of a closing frame, the item off the list, the entry removed or its head sent, the record by the form, the
flash of a chord closing or a FORCED frame, the line, and Station Control if the frame was acknowledged. A member report that ends
after its forced-close point has passed adds the forced-close item at once. (That the own closing of a chord also drops a forced close
still pending for it is the model's choice, notes/assumptions/35.md.) -/
def Obligations.JudgeFrameEnds : Prop :=
  ∀ (s : State) (f : InFlight) (j : JudgeLatch) (bytes : List Byte) (rest : List ReportItem) (acked : Bool),
    s.powered = true → s.line.state = .sending → s.line.inFlight = some f → f.source = .report → f.mismatch = false →
    f.latched = some ⟨.judge j, bytes⟩ → s.reports = j.item :: rest → j.tallies.isSome = j.form.closes →
    (∀ p, j.tallies = some p → s.station.state.judges = true → s.tally.failureEnabled = true → p.gauge ≠ 0) →
    let due := j.item.due
    let late := j.form = .member ∧ (s.station.state = .playing ∨ s.station.state = .lost) ∧
      due + s.judge.w + 205 ≤ s.adjClock ∧ (findRecord due s).any (fun r => !r.forcedPending) = true
    let dropped := j.form = .closingChord ∧ (findRecord due s).any (fun r => r.forcedPending) = true
    exec (.judgeSent ⟨acked, false⟩) s = .next { s with
      tally := match j.tallies with
        | some p => { s.tally with replica := p, counts := s.tally.counts.count j.result }
        | none => s.tally
      reports := if late then rest ++ [⟨.forced, due⟩]
        else if dropped then rest.filter fun i => !(i.kind == .forced && i.due == due) else rest
      queue := { s.queue with entries := match j.item.kind with
        | .head => s.queue.entries.map fun x => if x.due = due then { x with headSent := true } else x
        | .forced => s.queue.entries
        | _ => s.queue.entries.filter fun x => x.due != due }
      chords := match j.form with
        | .closingChord => s.chords.filter fun r => r.key != due
        | .forced => if j.evicted then s.chords else s.chords.filter fun r => r.key != due
        | .member => s.chords.map fun r =>
            if r.key = due then { r with ownSent := true, forcedPending := r.forcedPending || decide late } else r
        | _ => s.chords
      line := { s.line with state := .receiving, highCount := 0, lastSender := true, assembly := none, decision := none,
                            inFlight := none }
      station := if acked then s.stationAfterHeard else s.station
      lamp :=
        let lamp := if acked then s.lampAfterHeard else s.lamp
        match j.form with
        | .closingChord => { lamp with flash := some ⟨flashColour j.result, 16, 0⟩ }
        | .forced => { lamp with flash := some ⟨⟨4095, 0, 0, 0⟩, 16, 0⟩ }
        | _ => lamp }

/-- JUDGE_SENT of a closing frame whose carried gauge is 0 while failure is enabled, in PLAYING or LOST: the station applies it and
enters FAILED, with the queue, the table and the list emptied, acknowledged or not (R101, R106, R121). -/
def Obligations.JudgeFrameFails : Prop :=
  ∀ (s : State) (f : InFlight) (j : JudgeLatch) (p : Replica) (bytes : List Byte) (acked : Bool),
    s.powered = true → s.line.state = .sending → s.line.inFlight = some f → f.source = .report → f.mismatch = false →
    f.latched = some ⟨.judge j, bytes⟩ → j.tallies = some p → j.form.closes = true → p.gauge = 0 →
    s.tally.failureEnabled = true → (s.station.state = .playing ∨ s.station.state = .lost) →
    ∃ t, exec (.judgeSent ⟨acked, false⟩) s = .next t ∧
      t.station = { s.station with state := .failed, silence := none } ∧
      t.tally = { s.tally with replica := p, counts := s.tally.counts.count j.result } ∧
      t.queue = { s.queue with entries := [], pendingInsertion := none } ∧ t.chords = [] ∧ t.reports = [] ∧
      t.lamp.pattern = .failed ∧ t.clock = s.clock ∧ t.line.statusSlot = s.line.statusSlot ∧ t.line.lastSender = true ∧
      t.sense = s.sense ∧ t.settings = s.settings

/-- Every step keeps the Tally Unit sound: score, combo, max combo, gauge, counts and note value in their ranges and the combo not
above the max combo, with the tallies about to be applied or adopted in their ranges too (R92, R93, R94, R100, R104). -/
def Obligations.TallyInvariant : Prop :=
  ∀ s t : State, tallySound s = true → step s = .next t → tallySound t = true

/-! ### JUDGE frames heard -/

/-- MEMBER_REPORT heard (R76, R78): the grade of an expected partner not yet heard joins its record; a first partner opens a
record while the table has room, the entry is not chord-closed and the own head is unreported; with the table full, with the
entry chord-closed or its head reported, from a station the record does not expect, or where the report does not concern this
station, and outside PLAYING and LOST, it does no more than any frame heard. -/
def Obligations.MemberReportHeard : Prop :=
  ∀ (s : State) (f : HeadReport), s.hears (.member f) = true →
    let a := f.sender.toNat
    let due := f.due.toNat
    (s.station.state ≠ .playing → s.station.state ≠ .lost → exec (.memberReport f .whole) s = .next s.afterHeard) ∧
    ((s.station.state = .playing ∨ s.station.state = .lost) →
      (∀ r before after, s.chords = before ++ r :: after → (∀ x ∈ before, x.key ≠ due) → r.key = due →
        (a ∈ r.expected →
          exec (.memberReport f .whole) s = .next { s.afterHeard with
            chords := s.chords.map fun x =>
              if x.key = due ∧ (∀ p ∈ x.reports, p.1 ≠ a) then { x with reports := x.reports ++ [(a, f.grade)] } else x }) ∧
        (a ∉ r.expected → exec (.memberReport f .whole) s = .next s.afterHeard)) ∧
      (∀ e before after, (∀ x ∈ s.chords, x.key ≠ due) → s.queue.entries = before ++ e :: after →
        (∀ x ∈ before, x.due ≠ due) → e.due = due →
        (a ∈ e.partners → e.chordClosed = false → (e.kind = .tap ∨ e.headSent = false) → s.chords.length < 8 →
          exec (.memberReport f .whole) s = .next { s.afterHeard with
            chords := s.chords ++ [⟨due, e.partners, [(a, f.grade)], e.head.map HeadResult.grade, false, false⟩] }) ∧
        (e.chordClosed = true ∨ (e.kind ≠ .tap ∧ e.headSent = true) →
          exec (.memberReport f .whole) s = .next s.afterHeard)) ∧
      ((∀ x ∈ s.chords, x.key ≠ due) → 8 ≤ s.chords.length →
        exec (.memberReport f .whole) s = .next s.afterHeard) ∧
      ((∀ x ∈ s.chords, x.key = due → a ∉ x.expected) → (∀ e ∈ s.queue.entries, e.due = due → a ∉ e.partners) →
        exec (.memberReport f .whole) s = .next s.afterHeard))

/-- HEARD_CLOSURE (R76, R83, R87, R103, R104, R106, R121). In PLAYING or LOST the record goes with its forced close, an entry whose head
is unreported is chord-closed, the lamps flash the grade if the frame concerns this station, and a sender of the same player is
adopted; a carried gauge of 0 with failure enabled then fails the station, with queue, table and list emptied. In DONE it is
adopted only; in IDLE and FAILED it does no more than any frame heard. -/
def Obligations.ClosureHeard : Prop :=
  ∀ (s : State) (k : ClosureFrame), s.hears (.closure k) = true →
    let a := k.sender.toNat
    let due := k.due.toNat
    let c := k.carried
    let same := s.tally.doubles = true ∨ (a < 16 ↔ s.straps.pad = false)
    let judging := s.station.state = .playing ∨ s.station.state = .lost
    let fails := same ∧ s.tally.failureEnabled = true ∧ c.gauge = 0
    let adopted : TallyUnit := { s.tally with replica := ⟨c.score.toNat, c.combo.toNat,
      max s.tally.replica.maxCombo c.combo.toNat, c.gauge.toNat⟩ }
    let record := (findRecord due s).any fun r => r.expected.contains a
    let forced := (findRecord due s).any fun r => r.forcedPending
    let concerned := s.chords.any (fun r => r.key == due && r.expected.contains a) ||
      s.queue.entries.any fun e => e.due == due && e.partners.contains a
    let flash := if concerned then some ⟨flashColour (.grade k.grade), 16, 0⟩ else s.lamp.flash
    (s.station.state = .idle ∨ s.station.state = .failed → exec (.heardClosure k .whole) s = .next s.afterHeard) ∧
    (s.station.state = .done →
      exec (.heardClosure k .whole) s = .next { s.afterHeard with tally := if same then adopted else s.tally }) ∧
    (judging → ¬fails → exec (.heardClosure k .whole) s = .next { s.afterHeard with
      chords := if record then s.chords.filter fun r => r.key != due else s.chords
      reports := if record ∧ forced then s.reports.filter fun i => !(i.kind == .forced && i.due == due) else s.reports
      queue := { s.queue with pendingInsertion := none, entries := s.queue.entries.map fun e =>
        if e.due = due ∧ a ∈ e.partners ∧ (e.kind = .tap ∨ e.headSent = false) then { e with chordClosed := true } else e }
      lamp := { s.lampAfterHeard with flash := flash }
      tally := if same then adopted else s.tally }) ∧
    (judging → fails → exec (.heardClosure k .whole) s = .next { s.afterHeard with
      tally := adopted, chords := [], reports := []
      station := { s.station with state := .failed, silence := none }
      queue := { s.queue with entries := [], pendingInsertion := none }
      lamp := { s.lamp with pattern := .failed, flash := flash } })

/-- TAIL_FRAME heard (R76, R103, R104, R106): in PLAYING, LOST and DONE the values of a sender of the same player are adopted;
a gauge of 0 with failure enabled then fails a station in PLAYING or LOST, and one in DONE stays; in IDLE and FAILED, and from
the other player, the frame does no more than any frame heard. -/
def Obligations.TailFrameHeard : Prop :=
  ∀ (s : State) (f : TailFrame), s.hears (.tail f) = true →
    let same := s.tally.doubles = true ∨ (f.sender.toNat < 16 ↔ s.straps.pad = false)
    let adopted : TallyUnit := { s.tally with replica := ⟨f.carried.score.toNat, f.carried.combo.toNat,
      max s.tally.replica.maxCombo f.carried.combo.toNat, f.carried.gauge.toNat⟩ }
    let fails := s.tally.failureEnabled = true ∧ f.carried.gauge = 0
    (s.station.state = .idle ∨ s.station.state = .failed ∨ ¬same → exec (.tailFrame f .whole) s = .next s.afterHeard) ∧
    (s.station.state = .done → same → exec (.tailFrame f .whole) s = .next { s.afterHeard with tally := adopted }) ∧
    ((s.station.state = .playing ∨ s.station.state = .lost) → same → ¬fails →
      exec (.tailFrame f .whole) s = .next { s.afterHeard with tally := adopted }) ∧
    ((s.station.state = .playing ∨ s.station.state = .lost) → same → fails →
      exec (.tailFrame f .whole) s = .next { s.afterHeard with
        tally := adopted, chords := [], reports := []
        station := { s.station with state := .failed, silence := none }
        queue := { s.queue with entries := [], pendingInsertion := none }
        lamp := { s.lamp with pattern := .failed } })

/-- ORPHAN and STATUS_RECEIVED heard do no more than any frame heard: the line is released with the last-sender flag clear,
and in PLAYING and LOST the silence timer starts again and LOST returns to PLAYING (R76, R117, R119, R142, R168). -/
def Obligations.OrphanAndStatusHeard : Prop :=
  (∀ (s : State) (r : HeadReport), s.hears (.orphan r) = true → exec (.orphan r .whole) s = .next s.afterHeard) ∧
  (∀ (s : State) (f : StatusFrame), s.hears (.status f) = true → exec (.statusReceived f .whole) s = .next s.afterHeard) ∧
  (∀ s : State, s.station.state = .lost →
    s.afterHeard.station = { s.station with state := .playing, silence := some 0 } ∧
      s.afterHeard.lamp = { s.lamp with pattern := .noPattern }) ∧
  (∀ s : State, s.station.state = .playing →
    s.afterHeard.station = { s.station with silence := some 0 } ∧ s.afterHeard.lamp = s.lamp) ∧
  (∀ s : State, s.station.state ≠ .playing → s.station.state ≠ .lost →
    s.afterHeard.station = s.station ∧ s.afterHeard.lamp = s.lamp)

/-- Every step keeps the Chord Table sound: at most 8 records, no key twice, reports of expected partners once each, a forced close
pending only behind an own report; and table and report list empty outside PLAYING and LOST (R75, R76, R85, R89, R96). From a sound
state it keeps the report list sound: exactly one item for each judged entry, one for each judged head unsent, one for each forced
close pending or evicted in flight, a HEAD item before its TAIL item, at most 72 in all, the latched frame of the first (R69, R96,
R97). -/
def Obligations.ChordInvariant : Prop :=
  (∀ s t : State, chordsSound s = true → reportsConfined s = true → step s = .next t →
    chordsSound t = true ∧ reportsConfined t = true) ∧
  (∀ s t : State, s.sound = true → step s = .next t → reportsSound t = true)

/-! ### The Note Queue -/

/-- A NOTE whose length fits is malformed exactly when its kind is neither TAP nor HOLD, it is a HOLD of length 0, it has more than
3 partners, or a partner is no valid station, this station itself, or named twice; the test looks at the frame and the own
address alone (R39). -/
def Obligations.MalformedNotes : Prop :=
  ∀ (own : Nat) (f : NoteFrame), f.lengthOk = true →
    (noteEntry own f = none ↔
      1 < f.kind.toNat ∨ 3 < f.count.toNat ∨ (f.kind.toNat = 1 ∧ f.body.take 2 = [0, 0]) ∨
        (let partners := (f.body.drop (2 * f.kind.toNat)).map BitVec.toNat
         (∃ a ∈ partners, ¬(a ≤ 8 ∨ 16 ≤ a ∧ a ≤ 24)) ∨ own ∈ partners ∨ ¬partners.Nodup))

/-- NOTE heard for this station that passes the six tests (R34, R35, R38, R40, R41, R42, R43, R154): the entry it makes, WAITING, with
the due, kind, hold length and partners of the frame, stands in the queue between those of lower and those of higher due; beyond
that it does no more than any frame heard. -/
def Obligations.NoteAccepted : Prop :=
  ∀ (s : State) (f : NoteFrame) (e : NoteEntry), s.hears (.note f) = true → queueSound s = true →
    f.target.toNat = s.address → s.settings.job = none →
    (s.station.state = .idle ∨ s.station.state = .playing ∨ s.station.state = .lost) →
    noteEntry s.address f = some e →
    (s.station.state ≠ .idle → s.adjClock ≤ e.due + s.judge.w + 4 ∧ e.due ≤ s.station.endTime) →
    (∀ x ∈ s.queue.entries, x.due ≠ e.due ∧ overlap e x = false) → s.queue.entries.length < 32 →
    e.state = .waiting ∧ e.head = none ∧ e.headSent = false ∧ e.tail = none ∧ e.chordClosed = false ∧
    e.due = f.due.toNat ∧
    ((f.kind = 0 ∧ e.kind = .tap ∧ e.partners = f.body.map BitVec.toNat) ∨
      ∃ high low partners, f.kind = 1 ∧ f.body = high :: low :: partners ∧
        e.kind = .hold (256 * high.toNat + low.toNat) ∧ e.partners = partners.map BitVec.toNat) ∧
    exec (.note f .whole) s = .next { s.afterHeard with
      queue := { s.queue with pendingInsertion := none, entries :=
        (s.queue.entries.filter fun x => decide (x.due < e.due)) ++ e ::
          s.queue.entries.filter fun x => decide (e.due < x.due) } }

/-- NOTE heard that this station does not take (R37, R38, R40, R41, R42, R44; notes/assumptions/16.md, 21.md): for another
station, or while a STORE is in progress, it does no more than any frame heard; otherwise the first test of R38 that fails is
the last refusal, STALE counts up to 255, and the entries stay as they were. -/
def Obligations.NoteRefused : Prop :=
  ∀ (s : State) (f : NoteFrame), s.hears (.note f) = true →
    let heard := { s.queue with pendingInsertion := none }
    let judging := s.station.state = .playing ∨ s.station.state = .lost
    let refused := fun r : RefusalReason =>
      exec (.note f .whole) s = .next { s.afterHeard with queue := { heard with lastRefusal := r } }
    (f.target.toNat ≠ s.address ∨ s.settings.job ≠ none → exec (.note f .whole) s = .next s.afterHeard) ∧
    (f.target.toNat = s.address → s.settings.job = none →
      (s.station.state = .failed ∨ s.station.state = .done → refused .wrongState) ∧
      (s.station.state = .idle ∨ judging →
        (noteEntry s.address f = none → refused .malformed) ∧
        (∀ e, noteEntry s.address f = some e →
          (judging → e.due + s.judge.w + 4 < s.adjClock ∨ s.station.endTime < e.due →
            exec (.note f .whole) s = .next { s.afterHeard with queue := { heard with
              lastRefusal := .stale, staleCount := min 255 (s.queue.staleCount + 1) } }) ∧
          ((judging → s.adjClock ≤ e.due + s.judge.w + 4 ∧ e.due ≤ s.station.endTime) →
            ((∃ x ∈ s.queue.entries, x.due = e.due) → refused .duplicate) ∧
            ((∀ x ∈ s.queue.entries, x.due ≠ e.due) →
              ((∃ x ∈ s.queue.entries, overlap e x = true) → refused .overlap) ∧
              ((∀ x ∈ s.queue.entries, overlap e x = false) → 32 ≤ s.queue.entries.length →
                s.queue.pendingInsertion = none → refused .full))))))

/-- Every step keeps the Note Queue sound, with the Line Controller: at most 32 entries in rising due order, no due in the span of
an earlier hold, a pending insertion that still fits held only with the decision that made it, nothing held outside IDLE, PLAYING
and LOST (R35, R36, R41, R42, R43, R49; R130). With those it keeps the holds sound: at most one entry HOLDING or SLIPPING, HOLDING
only with the panel down and SLIPPING only with it up, and every entry WAITING in IDLE (R34, R53, R112). From a sound state it keeps
every entry sound: the head and tail results it holds are those its kind and state call for (R33, R60). -/
def Obligations.QueueInvariant : Prop :=
  (∀ s t : State, queueSound s = true → lineSound s = true → step s = .next t → queueSound t = true ∧ lineSound t = true) ∧
  (∀ s t : State, queueSound s = true → lineSound s = true → waitingSound s = true → holdsSound s = true →
     step s = .next t → waitingSound t = true ∧ holdsSound t = true) ∧
  (∀ s t : State, s.sound = true → step s = .next t → entriesSound t = true)

/-! ### A song from START to STOP -/

/-- The window clamp (R114): raw windows in units of 4 ticks, an upward pass and a downward pass; the result keeps its order and
limits, windows that already do so pass unchanged, and an accepted START gives them to the Judge Unit. -/
def Obligations.WindowClamp : Prop :=
  ∀ (f : StartFrame) (s : State),
    let e1 := max 4 (4 * f.e.toNat)
    let t1 := max (e1 + 4) (4 * f.t.toNat)
    let n1 := max (t1 + 4) (4 * f.n.toNat)
    let w1 := max (n1 + 4) (4 * f.w.toNat)
    let w2 := min 800 w1
    let n2 := min (w2 - 4) n1
    let t2 := min (n2 - 4) t1
    let e2 := min (t2 - 4) e1
    (4 ≤ e1 ∧ 8 ≤ t1 ∧ 12 ≤ n1 ∧ 16 ≤ w1) ∧
    (4 ≤ e2 ∧ e2 + 4 ≤ t2 ∧ t2 + 4 ≤ n2 ∧ n2 + 4 ≤ w2 ∧ w2 ≤ 800) ∧
    (4 ≤ 4 * f.e.toNat → 4 * f.e.toNat + 4 ≤ 4 * f.t.toNat → 4 * f.t.toNat + 4 ≤ 4 * f.n.toNat →
      4 * f.n.toNat + 4 ≤ 4 * f.w.toNat → 4 * f.w.toNat ≤ 800 →
      e2 = 4 * f.e.toNat ∧ t2 = 4 * f.t.toNat ∧ n2 = 4 * f.n.toNat ∧ w2 = 4 * f.w.toNat) ∧
    (s.hears (.start f) = true → s.station.state = .idle → f.startTime.toNat < f.endTime.toNat →
      ∃ t, exec (.start f .whole) s = .next t ∧ t.judge.e = e2 ∧ t.judge.t = t2 ∧ t.judge.n = n2 ∧ t.judge.w = w2)

/-- START heard (R14, R21, R44, R45, R92, R93, R113, R115, R116): in IDLE with its end after its start the song is set up as
one event, the stale preload purged and counted; otherwise it does no more than any frame heard. -/
def Obligations.StartHeard : Prop :=
  ∀ (s : State) (f : StartFrame), s.hears (.start f) = true →
    let start := f.startTime.toNat
    let stop := f.endTime.toNat
    let w := (startParams f).w
    let stale := fun e : NoteEntry => decide (e.due + w + 4 < s.adjust start) || decide (stop < e.due)
    (s.station.state ≠ .idle ∨ stop ≤ start → exec (.start f .whole) s = .next s.afterHeard) ∧
    (s.station.state = .idle → start < stop →
      exec (.start f .whole) s = .next { s.afterHeard with
        station := { s.station with state := .playing, startTime := start, endTime := stop, silence := some 0 }
        judge := { startParams f with g := 4 * f.grace.toNat }
        tally :=
          { replica := ⟨0, 0, 0, max 1 (min 1000 (5 * f.gauge.toNat))⟩, doubles := f.flags.getLsbD 0,
            failureEnabled := f.flags.getLsbD 1, counts := ⟨0, 0, 0, 0, 0, 0, 0⟩,
            noteValue := max 1 (min 10000 f.noteValue.toNat) }
        queue :=
          { entries := s.queue.entries.filter fun e => !stale e, pendingInsertion := none,
            staleCount := min 255 (s.queue.entries.countP stale), lastRefusal := .noRefusal }
        clock :=
          { tick := start, phase := 0, running := true, saturated := false,
            nextMark := if (start / 256 + 1) * 256 ≤ 16776960 then some ((start / 256 + 1) * 256) else none,
            markPending := false, slip := false }
        sense := { s.sense with detector := match s.sense.detector with
          | .pressing _ => .pressing start
          | .releasing _ n => .releasing start n
          | d => d } })

/-- STOP heard (R23, R47, R89, R122): in every state that examines frames the station is in IDLE with its queue and any pending
insertion, its chords and its report list emptied, the clock held where it was, flash and pattern gone; stale count, last refusal,
tallies, song parameters and the STATUS slot are kept. In FAILED and
DONE a sound queue is already empty. -/
def Obligations.StopHeard : Prop :=
  (∀ s : State, s.hears .stop = true →
     exec (.stop .whole) s = .next { s with
       station := { s.station with state := .idle, silence := none }
       clock := { s.clock with running := false, markPending := false }
       queue := { s.queue with entries := [], pendingInsertion := none }
       chords := [], reports := []
       lamp := { s.lamp with flash := none, pattern := .noPattern }
       line := s.lineAfterHeard }) ∧
  (∀ s : State, queueSound s = true → s.station.state = .failed ∨ s.station.state = .done →
     s.queue.entries = [] ∧ s.queue.pendingInsertion = none)

/-- Every step keeps Station Control sound: the silence timer runs exactly in PLAYING, a fault cause stands exactly in FAULT, the
lamps' pattern is the one of the station state, and a decision is held only where frames are examined (R109, R117, R118, R147,
R170). -/
def Obligations.StationInvariant : Prop :=
  ∀ s t : State, stationSound s = true → decisionSound s = true → step s = .next t →
    stationSound t = true ∧ decisionSound t = true

/-! ### Settings by frame -/

/-- WRITE heard (R4, R125, R127; notes/assumptions/16.md): for this station, in IDLE and not busy, the field takes the value
clamped to its range; a zone whose flag in the zone set changes is updated at once, a colour channel goes to the lamps;
otherwise it does no more than any frame heard. -/
def Obligations.WriteHeard : Prop :=
  ∀ (s : State) (f : WriteFrame), s.hears (.write f) = true →
    let c := s.settings.working
    let v := f.value.toNat
    let written := fun c' : Settings => { s.settings with working := c' }
    let taken := f.target.toNat = s.address ∧ s.settings.job = none ∧ s.station.state = .idle
    (¬taken → exec (.write f .whole) s = .next s.afterHeard) ∧
    (taken → f.field = 0 → exec (.write f .whole) s = .next
      { s.afterHeard with settings := written { c with press := min 16380 v } }) ∧
    (taken → f.field = 1 → exec (.write f .whole) s = .next
      { s.afterHeard with settings := written { c with release := min 16380 v } }) ∧
    (taken → f.field = 2 → ∃ t, exec (.write f .whole) s = .next t ∧
      t = { s.afterHeard with
        settings := written { c with zoneSet := min 15 v }, sense := { s.sense with zones := t.sense.zones } } ∧
      ∀ i : Fin 4,
        let z := s.sense.zones.get i
        let was := c.zoneSet.testBit i.val
        let on := (min 15 v).testBit i.val
        t.sense.zones.get i =
          if was = on then z
          else if on then { z with condition := .healthy, baseline := z.raw, railCount := 0, insideCount := 0 }
          else { z with condition := .off, railCount := 0, insideCount := 0 }) ∧
    (taken → f.field = 3 → exec (.write f .whole) s = .next
      { s.afterHeard with settings := written { c with inputOffset := max (-400) (min 400 f.value.toInt) } }) ∧
    (∀ i : Fin 4, taken → f.field.toNat = 4 + i.val → exec (.write f .whole) s = .next { s.afterHeard with
      settings := written { c with idleColour := c.idleColour.modify i fun _ => min 4095 v }
      lamp := { s.lamp with base := s.lamp.base.modify i fun _ => min 4095 v } }) ∧
    (∀ i : Fin 4, taken → f.field.toNat = 8 + i.val → exec (.write f .whole) s = .next { s.afterHeard with
      settings := written { c with pressColour := c.pressColour.modify i fun _ => min 4095 v }
      lamp := { s.lamp with press := s.lamp.press.modify i fun _ => min 4095 v } })

/-- STORE, RESTART and QUERY heard (R124, R127, R128, R129, R165, R166; notes/assumptions/16.md, 17.md): for this station and
not busy, in IDLE for the two operations, a STORE begins over the working settings, a RESTART resets the station as RESET
does, a QUERY puts its page in the STATUS slot; otherwise they do no more than any frame heard. -/
def Obligations.StoreRestartQueryHeard : Prop :=
  ∀ (s : State) (target page : Byte) (p : Straps),
    let mine := target.toNat = s.address ∧ s.settings.job = none
    (s.hears (.store target) = true →
      (mine ∧ s.station.state = .idle →
        exec (.store target .whole) s = .next { s.afterHeard with
          settings := { s.settings with job := some ⟨s.settings.working, 0⟩ } }) ∧
      (¬(mine ∧ s.station.state = .idle) → exec (.store target .whole) s = .next s.afterHeard)) ∧
    (s.hears (.restart target) = true →
      (mine ∧ s.station.state = .idle →
        exec (.restart target p .whole) s = .next
          { State.reset with straps := p, settings := s.settings, freeCount := s.freeCount, pending := s.pending }) ∧
      (¬(mine ∧ s.station.state = .idle) → exec (.restart target p .whole) s = .next s.afterHeard)) ∧
    (s.hears (.query ⟨target, page⟩) = true →
      (mine → exec (.query ⟨target, page⟩ .whole) s = .next { s.afterHeard with
        line := { s.lineAfterHeard with statusSlot := pageOf page } }) ∧
      (¬mine → exec (.query ⟨target, page⟩ .whole) s = .next s.afterHeard))

/-! ### The line -/

/-- What a station decides at the acknowledge cell of a frame it hears (R43, R113, R122, R127, R139, R141, R163, R165): it holds the
frame with whether it accepts it, and for an accepted NOTE the pending insertion; no other block changes. -/
def Obligations.AcknowledgeDecided : Prop :=
  ∀ (s : State) (c : Instr) (f : Frame), c.frame = some f → s.hears f = true →
    ∃ t d, exec (c.atPoint .ackCell) s = .next t ∧
      t = { s with queue := { s.queue with pendingInsertion := t.queue.pendingInsertion }
                   line := { s.line with state := .receiving, highCount := 0, assembly := t.line.assembly,
                                         decision := some d } } ∧
      d.frame = f ∧
      (t.queue.pendingInsertion.isSome = true ↔ d.accepted = true ∧ ∃ n, f = .note n) ∧
      match f with
      | .mark _ => d.accepted = s.clock.running
      | .start q => d.accepted = true ↔ s.station.state = .idle ∧ q.startTime.toNat < q.endTime.toNat
      | .note n => d.accepted = true → n.target.toNat = s.address ∧ s.settings.job = none
      | .lamp l _ => d.accepted = l.targets.getLsbD s.address
      | .write w => d.accepted = true ↔ w.target.toNat = s.address ∧ s.settings.job = none ∧ s.station.state = .idle
      | .store a => d.accepted = true ↔ a.toNat = s.address ∧ s.settings.job = none ∧ s.station.state = .idle
      | .restart a => d.accepted = true ↔ a.toNat = s.address ∧ s.settings.job = none ∧ s.station.state = .idle
      | .query q => d.accepted = true ↔ q.target.toNat = s.address ∧ s.settings.job = none
      | _ => d.accepted = true

/-- A correct frame that bears the station's own address, in a class stations send, makes it enter FAULT with cause DUPLICATE
at the acknowledge cell, with none of the frame's effects; so does the end of an own MARK, JUDGE or STATUS frame with a mismatch
noted (R123, R146, R171; notes/assumptions/14.md, 27.md). -/
def Obligations.DuplicateAddressFaults : Prop :=
  let faulted := fun s t : State =>
    t = { s with station := { s.station with state := .fault, cause := .duplicate, silence := none }
                 lamp := { s.lamp with pattern := .faultDuplicate, patternTimer := 0 }
                 clock := { s.clock with running := false, markPending := false }
                 queue := { s.queue with entries := [], pendingInsertion := none }
                 chords := [], reports := [], line := t.line } ∧
      t.line.statusSlot = none ∧ t.line.inFlight = none ∧ t.line.assembly = none ∧ t.line.decision = none
  (∀ (s : State) (c : Instr) (f : Frame) (p : FramePoint), c.frame = some f → p ≠ .endOfFrame → s.powered = true →
    s.station.state.examines = true → s.line.mayFollow = true → f.wellFormed = true → f.sender = some s.headerAddress →
    ∃ t, exec (c.atPoint p) s = .next t ∧ faulted s t) ∧
  (∀ (s : State) (f : InFlight) (l : Latched) (ending : OwnEnd), s.powered = true → s.line.state = .sending →
    s.line.inFlight = some f → f.latched = some l → (f.mismatch = true ∨ ending.mismatch = true) →
    (f.source = .mark → ∃ t, exec (.markSent ending) s = .next t ∧ faulted s t) ∧
    (f.source = .report → ∃ t, exec (.judgeSent ending) s = .next t ∧ faulted s t) ∧
    (f.source = .status → ∃ t, exec (.statusSent ending) s = .next t ∧ faulted s t))

/-- A contest on the header (R136): the station wins exactly when no rival's header is lower, and the line carries the lowest header
of all. -/
def Obligations.LowestHeaderWins : Prop :=
  ∀ (own : Byte) (rivals : List Byte),
    ((arbitrate own rivals).1 = true ↔ ∀ h ∈ rivals, own.toNat ≤ h.toNat) ∧
    ∃ h ∈ own :: rivals, (∀ k ∈ own :: rivals, h.toNat ≤ k.toNat) ∧ (arbitrate own rivals).2 = bitsOf h

/-- FRAME_START with the line free, the gap passed and a source ready (R25, R133, R134, R135, R136): MARK before report before
STATUS, the header of class 0, 2 or 7 and the own address; CONTENDING to the end of the header if no rival's is lower, else
following the lowest. At a station that does not start (the input already low, or a condition not met), another's start edge, for
which FRAME_START stands too (notes/assumptions/6.md), begins an assembly in LINE_FREE and in RECEIVING between frames, whatever its
own gap and sources; in LINE_BREAK it begins none, and the high count goes to 0 (R130, R134, R147; in FAULT too,
notes/assumptions/32.md). -/
def Obligations.FrameStarts : Prop :=
  ∀ (s : State) (i : StartInstant), s.powered = true →
    let mark := s.clock.markPending = true ∧ s.clock.running = true ∧ s.clock.saturated = false ∧ i.boundary = true ∧
      s.clock.phase = 0
    let free := s.station.state.examines = true ∧ s.line.state = .lineFree ∧
      (if s.line.lastSender then 16 else 10) ≤ min 16 (max s.line.highCount i.quiet)
    let ready := mark ∨ s.reports ≠ [] ∨ s.line.statusSlot ≠ none
    let others := i.inputHigh = false ∨ i.rivals ≠ []
    (∀ src : Source, free → i.inputHigh = true →
      (src = .mark ∧ mark ∨ src = .report ∧ ¬mark ∧ s.reports ≠ [] ∨
        src = .status ∧ ¬mark ∧ s.reports = [] ∧ s.line.statusSlot ≠ none) →
      let cls : BitVec 3 := match src with
        | .mark => 0
        | .report => 2
        | .status => 7
      let header : Byte := cls ++ s.headerAddress
      ((∀ h ∈ i.rivals, header.toNat ≤ h.toNat) → exec (.frameStart i) s = .next { s with
        line := { s.line with state := .contending, highCount := 0, assembly := none, decision := none,
                              inFlight := some ⟨src, header, s.clock.tick, none, false⟩ } }) ∧
      (∀ h ∈ i.rivals, h.toNat < header.toNat → (∀ k ∈ i.rivals, h.toNat ≤ k.toNat) →
        exec (.frameStart i) s = .next { s with
          line := { s.line with state := .receiving, highCount := 0, assembly := some ⟨bitsOf h, 12⟩, decision := none,
                                inFlight := none } })) ∧
    (¬(free ∧ ready ∧ i.inputHigh = true) →
      (¬others → exec (.frameStart i) s = .next s) ∧
      (others → s.station.state ≠ .startup →
        ((s.line.state = .lineFree ∨ s.line.state = .receiving) → s.line.assembly = none → s.line.decision = none →
          s.line.inFlight = none →
          exec (.frameStart i) s = .next { s with
            line := { s.line with state := .receiving, highCount := 0, assembly := some ⟨[], 0⟩ } }) ∧
        (s.line.state = .lineBreak →
          exec (.frameStart i) s = .next { s with line := { s.line with highCount := 0 } })))

/-- PAYLOAD_LATCH (R18, R25, R80, R86, R100, R108, R137, R153, R159, R167, R177): SENDING with the payload fixed, and nothing but the
frame in flight changed. For a MARK the tick at the start edge. For a TAP or HEAD item the form and grade the closing decision gives
(ClosingDecided): a closing frame with the new tallies of that grade, a member report or an orphan, with the offset and lapse flag
of the own head. For a TAIL item its result with the new tallies; for a forced close a FORCED frame of MISS. For a STATUS the page
in the slot, with the values of the blocks as they stand. -/
def Obligations.PayloadLatched : Prop :=
  ∀ (s : State) (f : InFlight), s.powered = true → s.line.state = .contending → s.line.inFlight = some f →
    let latched := fun l : Latched => exec .payloadLatch s = .next
      { s with line := { s.line with state := .sending, inFlight := some { f with latched := some l } } }
    let tallies := fun r : JudgeResult => newTallies s.tally.noteValue r s.tally.replica
    let carried := fun p : Replica => (⟨BitVec.ofNat 32 p.score, BitVec.ofNat 16 p.combo, BitVec.ofNat 16 p.gauge⟩ : Carried)
    let bit := fun b : Bool => if b then 1 else 0
    (f.source = .mark → latched ⟨.mark, be24 (BitVec.ofNat 24 f.startTick)⟩) ∧
    (∀ kind item e h rest before after form g, f.source = .report → s.reports = ⟨item, e.due⟩ :: rest →
      (kind = .tap ∧ item = .tap ∨ kind = .head ∧ item = .head) →
      s.queue.entries = before ++ e :: after → (∀ x ∈ before, x.due ≠ e.due) → e.head = some h →
      closingDecision e h.grade s = (form, g) →
      let r : HeadReport := ⟨s.headerAddress, kind, BitVec.ofNat 24 e.due, g, h.lapsed, BitVec.ofInt 16 h.offset⟩
      ((form = .closingSingle ∨ form = .closingChord) →
        latched ⟨.judge ⟨⟨item, e.due⟩, form, .grade g, some (tallies (.grade g)), false⟩,
          (Frame.closure (.head r (carried (tallies (.grade g))))).payload⟩) ∧
      (form = .member → latched ⟨.judge ⟨⟨item, e.due⟩, form, .grade g, none, false⟩, (Frame.member r).payload⟩) ∧
      (form = .orphan → latched ⟨.judge ⟨⟨item, e.due⟩, form, .grade g, none, false⟩, (Frame.orphan r).payload⟩)) ∧
    (∀ e r rest before after, f.source = .report → s.reports = ⟨.tail, e.due⟩ :: rest →
      s.queue.entries = before ++ e :: after → (∀ x ∈ before, x.due ≠ e.due) → e.tail = some r →
      latched ⟨.judge ⟨⟨.tail, e.due⟩, .tail, .hold r, some (tallies (.hold r)), false⟩,
        (Frame.tail ⟨s.headerAddress, BitVec.ofNat 24 e.due, r, carried (tallies (.hold r))⟩).payload⟩) ∧
    (∀ key rest, f.source = .report → s.reports = ⟨.forced, key⟩ :: rest →
      latched ⟨.judge ⟨⟨.forced, key⟩, .forced, .grade .miss, some (tallies (.grade .miss)), false⟩,
        (Frame.closure (.forced s.headerAddress (BitVec.ofNat 24 key) (carried (tallies (.grade .miss))))).payload⟩) ∧
    (∀ page, f.source = .status → s.line.statusSlot = some page →
      let byte := BitVec.ofNat 8
      let two := fun n : Nat => be16 (BitVec.ofNat 16 n)
      let z := s.sense.zones
      let c := s.lamp.channels
      let n := s.tally.counts
      let p := s.tally.replica
      let condition := fun x : ZoneRecord => match x.condition with
        | .healthy => 0
        | .faulty => 1
        | .off => 2
      let state := match s.station.state with
        | .startup => 0
        | .idle => 1
        | .playing => 2
        | .lost => 3
        | .failed => 4
        | .done => 5
        | .fault => 6
      let refusal := match s.queue.lastRefusal with
        | .noRefusal => 0
        | .full => 1
        | .stale => 2
        | .duplicate => 3
        | .overlap => 4
        | .malformed => 5
        | .wrongState => 6
      latched ⟨.status, byte page.val :: match page with
        | 0 =>
          [byte state, byte (condition z.q0 + 4 * condition z.q1 + 16 * condition z.q2 + 64 * condition z.q3),
            byte (bit c.q0.openFlag + 2 * bit c.q1.openFlag + 4 * bit c.q2.openFlag + 8 * bit c.q3.openFlag +
              16 * bit c.q0.shortLatch + 32 * bit c.q1.shortLatch + 64 * bit c.q2.shortLatch + 128 * bit c.q3.shortLatch),
            byte (bit s.settings.defaulted + 2 * bit s.clock.slip), byte s.queue.entries.length, byte s.reports.length,
            byte s.queue.staleCount, byte refusal] ++ be24 (BitVec.ofNat 24 s.clock.tick)
        | 1 => two n.exact ++ two n.tight ++ two n.near ++ two n.wide ++ two n.miss ++ two n.ok ++ two n.ng
        | 2 =>
          be32 (BitVec.ofNat 32 p.score) ++ two p.combo ++ two p.maxCombo ++ two p.gauge ++
            [byte (if s.tally.doubles = true ∨ s.straps.pad = false then 0 else 1)]
        | 3 => two z.q0.raw ++ two z.q1.raw ++ two z.q2.raw ++ two z.q3.raw ++ two s.sense.load⟩)

/-- The form and the grade of a TAP or HEAD frame (R80): a single note closes; a chord-closed entry is an orphan; a chord closes with
the worst grade when every partner has reported; otherwise it is a member report of the own grade. -/
def Obligations.ClosingDecided : Prop :=
  ∀ (e : NoteEntry) (own : Grade) (s : State) (r : ChordRecord),
    (e.partners = [] → closingDecision e own s = (.closingSingle, own)) ∧
    (e.partners ≠ [] → e.chordClosed = true → closingDecision e own s = (.orphan, own)) ∧
    (e.partners ≠ [] → e.chordClosed = false → findRecord e.due s = some r → r.own = some own →
      ((∀ a ∈ r.expected, ∃ g, (a, g) ∈ r.reports) →
        ∃ g, closingDecision e own s = (.closingChord, g) ∧ (g = own ∨ ∃ p ∈ r.reports, g = p.2) ∧
          gradeRank own ≤ gradeRank g ∧ ∀ p ∈ r.reports, gradeRank p.2 ≤ gradeRank g) ∧
      ((∃ a ∈ r.expected, ∀ g, (a, g) ∉ r.reports) → closingDecision e own s = (.member, own))) ∧
    (e.partners ≠ [] → e.chordClosed = false → findRecord e.due s = none → closingDecision e own s = (.member, own))

/-- MARK_SENT and STATUS_SENT with the frame latched and no mismatch (R25, R117, R119, R133, R142, R166): the MARK slot empties and
the next mark point is the multiple of 256 after the tick; the STATUS slot empties; the last-sender flag is set, and Station Control
hears of an acknowledge only. -/
def Obligations.MarkAndStatusSent : Prop :=
  ∀ (s : State) (f : InFlight) (l : Latched) (acked : Bool), s.powered = true → s.line.state = .sending →
    s.line.inFlight = some f → f.latched = some l → f.mismatch = false →
    let line := { s.line with state := .receiving, highCount := 0, lastSender := true, assembly := none, decision := none,
                              inFlight := none }
    let station := if acked then s.stationAfterHeard else s.station
    let lamp := if acked then s.lampAfterHeard else s.lamp
    (f.source = .mark → exec (.markSent ⟨acked, false⟩) s = .next { s with
      line := line, station := station, lamp := lamp
      clock := { s.clock with markPending := false, nextMark :=
        if (s.clock.tick / 256 + 1) * 256 ≤ 16776960 then some ((s.clock.tick / 256 + 1) * 256) else none } }) ∧
    (f.source = .status → exec (.statusSent ⟨acked, false⟩) s = .next { s with
      line := { line with statusSlot := none }, station := station, lamp := lamp })

/-- IDLE_GAP on a line with no frame brings LINE_FREE (R133); a RUNT drops the assembly its low began (R134); a falling edge
in LINE_BREAK only sets the high count to 0 (R130). LONG_LOW, FRAME_TIMEOUT and BREAK (R26, R43, R97, R143, R144, R145;
notes/assumptions/15.md): the frame in flight or followed ends with none of its effects, a pending insertion and the decision
lapse, the last-sender flag is cleared, the sources stay; only a FORCED item whose record was evicted leaves the list. A frame
another station began counts for these though no FRAME_START came for it (notes/assumptions/30.md).
FRAME_DISCARDED (R139, R142): a followed frame that fails a test changes nothing but the line. That a station in FAULT tracks the line
so too is read from the manual by inference (notes/assumptions/32.md). -/
def Obligations.LineEvents : Prop :=
  (∀ s : State, s.powered = true → s.station.state ≠ .startup →
     ((s.line.state = .receiving ∨ s.line.state = .lineBreak) → s.line.assembly = none → s.line.decision = none →
       s.line.inFlight = none →
       exec .idleGap s = .next { s with
         line := { s.line with state := .lineFree, highCount := min 16 (max 10 s.line.highCount) } }) ∧
     (s.line.state = .lineFree → exec .runt s = .next { s with line := { s.line with state := .receiving, highCount := 0 } }) ∧
     (∀ a, s.line.state = .receiving → s.line.assembly = some a → a.cells = 0 → s.line.decision = none →
       exec .runt s = .next { s with line := { s.line with highCount := 0, assembly := none } }) ∧
     (s.line.state = .lineBreak →
       exec .lineBreakFallingEdge s = .next { s with line := { s.line with highCount := 0 } })) ∧
  (∀ s : State, s.powered = true → s.station.state ≠ .startup →
     let aborted := fun (high : Nat) (state : LineState) =>
       { s with queue := { s.queue with pendingInsertion := none }
                reports := if (evictedKey s).isSome then s.reports.tail else s.reports
                line := { s.line with state := state, highCount := high, lastSender := false, assembly := none,
                                      decision := none, inFlight := none } }
     (s.line.state ≠ .lineBreak → exec .longLow s = .next (aborted 0 .receiving)) ∧
     (s.line.state ≠ .lineBreak → exec .frameTimeout s = .next (aborted 2 .receiving)) ∧
     exec .lineBreak s = .next (aborted 0 .lineBreak) ∧
     (∀ (w : WireFrame) (d : Discard), readFrame w = .error d → s.line.mayFollow = true →
       exec (.frameDiscarded w) s = .next { s with line := s.lineAfterHeard }))

/-! ### Frames on the wire -/

/-- Every well-formed frame, written to its bytes and read back through the tests of R139, is itself: the header, length,
payload and check it is written with pass the tests and give its fields back, for every class and kind (R132, R138, R139, R148
to R155, R162, R164, R165, R167). -/
def Obligations.FramesReadBack : Prop :=
  ∀ f : Frame, f.wellFormed = true → readFrame f.wire = .ok f

/-- One inverted bit is found by the check (R138, R139): the computed check of any run of bits differs from that of the run
with one bit inverted, and a frame written with one header bit inverted fails test 1. -/
def Obligations.OneBitErrorFound : Prop :=
  (∀ (bits : List Bool) (i : Nat), i < bits.length → crc8 (bits.modify i not) ≠ crc8 bits) ∧
  (∀ (f : Frame) (h : Byte), (∃ i : Fin 8, h = f.wire.header ^^^ (1#8 <<< i.val)) →
    readFrame { f.wire with header := h } = .error .crc)

/-! ### Lamps -/

/-- LAMP and CLEAR_LATCH heard (R163, R174, R176): a station in the target set takes the four values into the layer, and with
clear-latch every short latch is cleared, the flash and the settings as they were; for one that is not the frame does no more
than any frame heard. -/
def Obligations.LampHeard : Prop :=
  ∀ (s : State) (f : LampFrame),
    let colour : Quad Nat := ⟨f.colour.q0.toNat, f.colour.q1.toNat, f.colour.q2.toNat, f.colour.q3.toNat⟩
    let painted := match f.layer with
      | .base => { s.lampAfterHeard with base := colour }
      | .press => { s.lampAfterHeard with press := colour }
    (s.hears (.lamp f false) = true →
      (f.targets.getLsbD s.address = true → exec (.lamp f .whole) s = .next { s.afterHeard with lamp := painted }) ∧
      (f.targets.getLsbD s.address = false → exec (.lamp f .whole) s = .next s.afterHeard)) ∧
    (s.hears (.lamp f true) = true →
      (f.targets.getLsbD s.address = true → ∃ t, exec (.clearLatch f .whole) s = .next t ∧
        t = { s.afterHeard with lamp := { painted with channels := t.lamp.channels } } ∧
        ∀ i, t.lamp.channels.get i = { s.lamp.channels.get i with shortLatch := false }) ∧
      (f.targets.getLsbD s.address = false → exec (.clearLatch f .whole) s = .next s.afterHeard))

/-- PWM_PERIOD (R169, R170, R175, R176): a channel whose duty was 64 or more is measured: its run count and open flag follow
the current, an over-current sets its short latch; the next duty is the composed one, or 0 with the latch set, and 0 before
the settings load (notes/assumptions/12.md). That one command ends a period and begins the next is read by inference
(notes/assumptions/25.md). OPEN_FLAG on its own toggles the flag at a run count of 8
(notes/assumptions/3.md). -/
def Obligations.PwmPeriods : Prop :=
  (∀ (s : State) (sensed : Quad ChannelSense), s.powered = true →
    ∃ t, exec (.pwmPeriod sensed) s = .next t ∧
      t = { s with lamp := { s.lamp with channels := t.lamp.channels, pwmTimer := 0 } } ∧
      ∀ i : Fin 4,
        let c := s.lamp.channels.get i
        let c' := t.lamp.channels.get i
        let x := sensed.get i
        let against := x.current = c.openFlag
        (c.duty < 64 → c'.openFlag = c.openFlag ∧ c'.runCount = c.runCount ∧ c'.shortLatch = c.shortLatch) ∧
        (64 ≤ c.duty → c'.shortLatch = (c.shortLatch || x.overCurrent)) ∧
        (64 ≤ c.duty → ¬against → c'.openFlag = c.openFlag ∧ c'.runCount = 0) ∧
        (64 ≤ c.duty → against → c.runCount < 7 → c'.openFlag = c.openFlag ∧ c'.runCount = c.runCount + 1) ∧
        (64 ≤ c.duty → against → 7 ≤ c.runCount → c'.openFlag = !c.openFlag ∧ c'.runCount = 0) ∧
        c'.duty = if c'.shortLatch ∨ s.sense.sampleTimer = none then 0 else (composed s).get i) ∧
  (∀ (s : State) (i : Fin 4), s.powered = true → (s.lamp.channels.get i).runCount = 8 →
    ∃ t, exec (.openFlag i) s = .next t ∧ t = { s with lamp := { s.lamp with channels := t.lamp.channels } } ∧
      t.lamp.channels.get i =
        { s.lamp.channels.get i with openFlag := !(s.lamp.channels.get i).openFlag, runCount := 0 } ∧
      ∀ k, k ≠ i → t.lamp.channels.get k = s.lamp.channels.get k)

/-- What the lamps show (R170, R171, R173): a FAULT pattern by the half of its cycle, else LOST, else FAILED, else the flash in the
colour of its grade or result times its steps by 16, else the press or base colour. -/
def Obligations.LampsComposed : Prop :=
  ∀ s : State,
    (s.lamp.pattern = .faultDuplicate → s.lamp.patternTimer < 20000 → composed s = ⟨4095, 0, 0, 0⟩) ∧
    (s.lamp.pattern = .faultDuplicate → 20000 ≤ s.lamp.patternTimer → composed s = ⟨0, 0, 0, 0⟩) ∧
    (s.lamp.pattern = .faultStrap → s.lamp.patternTimer < 20000 → composed s = ⟨4095, 0, 0, 0⟩) ∧
    (s.lamp.pattern = .faultStrap → 20000 ≤ s.lamp.patternTimer → composed s = ⟨0, 0, 4095, 0⟩) ∧
    (s.lamp.pattern = .lost → composed s = ⟨0, 0, 0, 1024⟩) ∧
    (s.lamp.pattern = .failed → composed s = ⟨512, 0, 0, 0⟩) ∧
    (∀ r k m, s.lamp.pattern = .noPattern → s.lamp.flash = some ⟨flashColour r, k, m⟩ → 1 ≤ k → k ≤ 16 →
      let duty := 4095 * k / 16
      64 ≤ duty ∧ composed s = match r with
        | .grade .exact => ⟨0, 0, 0, duty⟩
        | .grade .tight => ⟨0, duty, duty, 0⟩
        | .grade .near => ⟨0, duty, 0, 0⟩
        | .grade .wide => ⟨duty, duty, 0, 0⟩
        | .grade .miss => ⟨duty, 0, 0, 0⟩
        | .hold .ok => ⟨0, 0, duty, 0⟩
        | .hold .ng => ⟨duty, 0, duty, 0⟩) ∧
    (s.lamp.pattern = .noPattern → s.lamp.flash = none →
      (s.sense.detector = .pressed ∨ (∃ k n, s.sense.detector = .releasing k n) → composed s = s.lamp.press) ∧
      (s.sense.detector = .released ∨ (∃ k, s.sense.detector = .pressing k) → composed s = s.lamp.base))

/-- Every step keeps the settings, the lamps, the Sense Unit and the judging windows in their ranges: a channel whose short latch is
set has duty 0, the windows keep their order, the detector is RELEASED through STARTUP (R3, R7, R9, R11, R16, R50, R114, R125, R169,
R172, R176). -/
def Obligations.RangeInvariant : Prop :=
  ∀ s t : State, settingsSound s = true → lampSound s = true → senseSound s = true → windowsSound s.judge = true →
    step s = .next t →
    settingsSound t = true ∧ lampSound t = true ∧ senseSound t = true ∧ windowsSound t.judge = true
end

