-- ==== Sys2Proof/Laws/State.lean ====
section
/-! SUPPORT. One lemma per field per replacement of a block of State, each true by definition. -/

namespace Sys2Proof.Machine

section
variable (s : State) (x : Bool)
@[simp] theorem State.setPowered_powered : (s.setPowered x).powered = x := rfl
@[simp] theorem State.setPowered_straps : (s.setPowered x).straps = s.straps := rfl
@[simp] theorem State.setPowered_station : (s.setPowered x).station = s.station := rfl
@[simp] theorem State.setPowered_settings : (s.setPowered x).settings = s.settings := rfl
@[simp] theorem State.setPowered_sense : (s.setPowered x).sense = s.sense := rfl
@[simp] theorem State.setPowered_clock : (s.setPowered x).clock = s.clock := rfl
@[simp] theorem State.setPowered_queue : (s.setPowered x).queue = s.queue := rfl
@[simp] theorem State.setPowered_judge : (s.setPowered x).judge = s.judge := rfl
@[simp] theorem State.setPowered_chords : (s.setPowered x).chords = s.chords := rfl
@[simp] theorem State.setPowered_tally : (s.setPowered x).tally = s.tally := rfl
@[simp] theorem State.setPowered_reports : (s.setPowered x).reports = s.reports := rfl
@[simp] theorem State.setPowered_line : (s.setPowered x).line = s.line := rfl
@[simp] theorem State.setPowered_lamp : (s.setPowered x).lamp = s.lamp := rfl
@[simp] theorem State.setPowered_freeCount : (s.setPowered x).freeCount = s.freeCount := rfl
@[simp] theorem State.setPowered_pending : (s.setPowered x).pending = s.pending := rfl
end

section
variable (s : State) (x : Straps)
@[simp] theorem State.setStraps_powered : (s.setStraps x).powered = s.powered := rfl
@[simp] theorem State.setStraps_straps : (s.setStraps x).straps = x := rfl
@[simp] theorem State.setStraps_station : (s.setStraps x).station = s.station := rfl
@[simp] theorem State.setStraps_settings : (s.setStraps x).settings = s.settings := rfl
@[simp] theorem State.setStraps_sense : (s.setStraps x).sense = s.sense := rfl
@[simp] theorem State.setStraps_clock : (s.setStraps x).clock = s.clock := rfl
@[simp] theorem State.setStraps_queue : (s.setStraps x).queue = s.queue := rfl
@[simp] theorem State.setStraps_judge : (s.setStraps x).judge = s.judge := rfl
@[simp] theorem State.setStraps_chords : (s.setStraps x).chords = s.chords := rfl
@[simp] theorem State.setStraps_tally : (s.setStraps x).tally = s.tally := rfl
@[simp] theorem State.setStraps_reports : (s.setStraps x).reports = s.reports := rfl
@[simp] theorem State.setStraps_line : (s.setStraps x).line = s.line := rfl
@[simp] theorem State.setStraps_lamp : (s.setStraps x).lamp = s.lamp := rfl
@[simp] theorem State.setStraps_freeCount : (s.setStraps x).freeCount = s.freeCount := rfl
@[simp] theorem State.setStraps_pending : (s.setStraps x).pending = s.pending := rfl
end

section
variable (s : State) (x : StationControl)
@[simp] theorem State.setStation_powered : (s.setStation x).powered = s.powered := rfl
@[simp] theorem State.setStation_straps : (s.setStation x).straps = s.straps := rfl
@[simp] theorem State.setStation_station : (s.setStation x).station = x := rfl
@[simp] theorem State.setStation_settings : (s.setStation x).settings = s.settings := rfl
@[simp] theorem State.setStation_sense : (s.setStation x).sense = s.sense := rfl
@[simp] theorem State.setStation_clock : (s.setStation x).clock = s.clock := rfl
@[simp] theorem State.setStation_queue : (s.setStation x).queue = s.queue := rfl
@[simp] theorem State.setStation_judge : (s.setStation x).judge = s.judge := rfl
@[simp] theorem State.setStation_chords : (s.setStation x).chords = s.chords := rfl
@[simp] theorem State.setStation_tally : (s.setStation x).tally = s.tally := rfl
@[simp] theorem State.setStation_reports : (s.setStation x).reports = s.reports := rfl
@[simp] theorem State.setStation_line : (s.setStation x).line = s.line := rfl
@[simp] theorem State.setStation_lamp : (s.setStation x).lamp = s.lamp := rfl
@[simp] theorem State.setStation_freeCount : (s.setStation x).freeCount = s.freeCount := rfl
@[simp] theorem State.setStation_pending : (s.setStation x).pending = s.pending := rfl
end

section
variable (s : State) (x : SettingsStore)
@[simp] theorem State.setSettings_powered : (s.setSettings x).powered = s.powered := rfl
@[simp] theorem State.setSettings_straps : (s.setSettings x).straps = s.straps := rfl
@[simp] theorem State.setSettings_station : (s.setSettings x).station = s.station := rfl
@[simp] theorem State.setSettings_settings : (s.setSettings x).settings = x := rfl
@[simp] theorem State.setSettings_sense : (s.setSettings x).sense = s.sense := rfl
@[simp] theorem State.setSettings_clock : (s.setSettings x).clock = s.clock := rfl
@[simp] theorem State.setSettings_queue : (s.setSettings x).queue = s.queue := rfl
@[simp] theorem State.setSettings_judge : (s.setSettings x).judge = s.judge := rfl
@[simp] theorem State.setSettings_chords : (s.setSettings x).chords = s.chords := rfl
@[simp] theorem State.setSettings_tally : (s.setSettings x).tally = s.tally := rfl
@[simp] theorem State.setSettings_reports : (s.setSettings x).reports = s.reports := rfl
@[simp] theorem State.setSettings_line : (s.setSettings x).line = s.line := rfl
@[simp] theorem State.setSettings_lamp : (s.setSettings x).lamp = s.lamp := rfl
@[simp] theorem State.setSettings_freeCount : (s.setSettings x).freeCount = s.freeCount := rfl
@[simp] theorem State.setSettings_pending : (s.setSettings x).pending = s.pending := rfl
end

section
variable (s : State) (x : SenseUnit)
@[simp] theorem State.setSense_powered : (s.setSense x).powered = s.powered := rfl
@[simp] theorem State.setSense_straps : (s.setSense x).straps = s.straps := rfl
@[simp] theorem State.setSense_station : (s.setSense x).station = s.station := rfl
@[simp] theorem State.setSense_settings : (s.setSense x).settings = s.settings := rfl
@[simp] theorem State.setSense_sense : (s.setSense x).sense = x := rfl
@[simp] theorem State.setSense_clock : (s.setSense x).clock = s.clock := rfl
@[simp] theorem State.setSense_queue : (s.setSense x).queue = s.queue := rfl
@[simp] theorem State.setSense_judge : (s.setSense x).judge = s.judge := rfl
@[simp] theorem State.setSense_chords : (s.setSense x).chords = s.chords := rfl
@[simp] theorem State.setSense_tally : (s.setSense x).tally = s.tally := rfl
@[simp] theorem State.setSense_reports : (s.setSense x).reports = s.reports := rfl
@[simp] theorem State.setSense_line : (s.setSense x).line = s.line := rfl
@[simp] theorem State.setSense_lamp : (s.setSense x).lamp = s.lamp := rfl
@[simp] theorem State.setSense_freeCount : (s.setSense x).freeCount = s.freeCount := rfl
@[simp] theorem State.setSense_pending : (s.setSense x).pending = s.pending := rfl
end

section
variable (s : State) (x : SongClock)
@[simp] theorem State.setClock_powered : (s.setClock x).powered = s.powered := rfl
@[simp] theorem State.setClock_straps : (s.setClock x).straps = s.straps := rfl
@[simp] theorem State.setClock_station : (s.setClock x).station = s.station := rfl
@[simp] theorem State.setClock_settings : (s.setClock x).settings = s.settings := rfl
@[simp] theorem State.setClock_sense : (s.setClock x).sense = s.sense := rfl
@[simp] theorem State.setClock_clock : (s.setClock x).clock = x := rfl
@[simp] theorem State.setClock_queue : (s.setClock x).queue = s.queue := rfl
@[simp] theorem State.setClock_judge : (s.setClock x).judge = s.judge := rfl
@[simp] theorem State.setClock_chords : (s.setClock x).chords = s.chords := rfl
@[simp] theorem State.setClock_tally : (s.setClock x).tally = s.tally := rfl
@[simp] theorem State.setClock_reports : (s.setClock x).reports = s.reports := rfl
@[simp] theorem State.setClock_line : (s.setClock x).line = s.line := rfl
@[simp] theorem State.setClock_lamp : (s.setClock x).lamp = s.lamp := rfl
@[simp] theorem State.setClock_freeCount : (s.setClock x).freeCount = s.freeCount := rfl
@[simp] theorem State.setClock_pending : (s.setClock x).pending = s.pending := rfl
end

section
variable (s : State) (x : NoteQueue)
@[simp] theorem State.setQueue_powered : (s.setQueue x).powered = s.powered := rfl
@[simp] theorem State.setQueue_straps : (s.setQueue x).straps = s.straps := rfl
@[simp] theorem State.setQueue_station : (s.setQueue x).station = s.station := rfl
@[simp] theorem State.setQueue_settings : (s.setQueue x).settings = s.settings := rfl
@[simp] theorem State.setQueue_sense : (s.setQueue x).sense = s.sense := rfl
@[simp] theorem State.setQueue_clock : (s.setQueue x).clock = s.clock := rfl
@[simp] theorem State.setQueue_queue : (s.setQueue x).queue = x := rfl
@[simp] theorem State.setQueue_judge : (s.setQueue x).judge = s.judge := rfl
@[simp] theorem State.setQueue_chords : (s.setQueue x).chords = s.chords := rfl
@[simp] theorem State.setQueue_tally : (s.setQueue x).tally = s.tally := rfl
@[simp] theorem State.setQueue_reports : (s.setQueue x).reports = s.reports := rfl
@[simp] theorem State.setQueue_line : (s.setQueue x).line = s.line := rfl
@[simp] theorem State.setQueue_lamp : (s.setQueue x).lamp = s.lamp := rfl
@[simp] theorem State.setQueue_freeCount : (s.setQueue x).freeCount = s.freeCount := rfl
@[simp] theorem State.setQueue_pending : (s.setQueue x).pending = s.pending := rfl
end

section
variable (s : State) (x : JudgeParams)
@[simp] theorem State.setJudge_powered : (s.setJudge x).powered = s.powered := rfl
@[simp] theorem State.setJudge_straps : (s.setJudge x).straps = s.straps := rfl
@[simp] theorem State.setJudge_station : (s.setJudge x).station = s.station := rfl
@[simp] theorem State.setJudge_settings : (s.setJudge x).settings = s.settings := rfl
@[simp] theorem State.setJudge_sense : (s.setJudge x).sense = s.sense := rfl
@[simp] theorem State.setJudge_clock : (s.setJudge x).clock = s.clock := rfl
@[simp] theorem State.setJudge_queue : (s.setJudge x).queue = s.queue := rfl
@[simp] theorem State.setJudge_judge : (s.setJudge x).judge = x := rfl
@[simp] theorem State.setJudge_chords : (s.setJudge x).chords = s.chords := rfl
@[simp] theorem State.setJudge_tally : (s.setJudge x).tally = s.tally := rfl
@[simp] theorem State.setJudge_reports : (s.setJudge x).reports = s.reports := rfl
@[simp] theorem State.setJudge_line : (s.setJudge x).line = s.line := rfl
@[simp] theorem State.setJudge_lamp : (s.setJudge x).lamp = s.lamp := rfl
@[simp] theorem State.setJudge_freeCount : (s.setJudge x).freeCount = s.freeCount := rfl
@[simp] theorem State.setJudge_pending : (s.setJudge x).pending = s.pending := rfl
end

section
variable (s : State) (x : List ChordRecord)
@[simp] theorem State.setChords_powered : (s.setChords x).powered = s.powered := rfl
@[simp] theorem State.setChords_straps : (s.setChords x).straps = s.straps := rfl
@[simp] theorem State.setChords_station : (s.setChords x).station = s.station := rfl
@[simp] theorem State.setChords_settings : (s.setChords x).settings = s.settings := rfl
@[simp] theorem State.setChords_sense : (s.setChords x).sense = s.sense := rfl
@[simp] theorem State.setChords_clock : (s.setChords x).clock = s.clock := rfl
@[simp] theorem State.setChords_queue : (s.setChords x).queue = s.queue := rfl
@[simp] theorem State.setChords_judge : (s.setChords x).judge = s.judge := rfl
@[simp] theorem State.setChords_chords : (s.setChords x).chords = x := rfl
@[simp] theorem State.setChords_tally : (s.setChords x).tally = s.tally := rfl
@[simp] theorem State.setChords_reports : (s.setChords x).reports = s.reports := rfl
@[simp] theorem State.setChords_line : (s.setChords x).line = s.line := rfl
@[simp] theorem State.setChords_lamp : (s.setChords x).lamp = s.lamp := rfl
@[simp] theorem State.setChords_freeCount : (s.setChords x).freeCount = s.freeCount := rfl
@[simp] theorem State.setChords_pending : (s.setChords x).pending = s.pending := rfl
end

section
variable (s : State) (x : TallyUnit)
@[simp] theorem State.setTally_powered : (s.setTally x).powered = s.powered := rfl
@[simp] theorem State.setTally_straps : (s.setTally x).straps = s.straps := rfl
@[simp] theorem State.setTally_station : (s.setTally x).station = s.station := rfl
@[simp] theorem State.setTally_settings : (s.setTally x).settings = s.settings := rfl
@[simp] theorem State.setTally_sense : (s.setTally x).sense = s.sense := rfl
@[simp] theorem State.setTally_clock : (s.setTally x).clock = s.clock := rfl
@[simp] theorem State.setTally_queue : (s.setTally x).queue = s.queue := rfl
@[simp] theorem State.setTally_judge : (s.setTally x).judge = s.judge := rfl
@[simp] theorem State.setTally_chords : (s.setTally x).chords = s.chords := rfl
@[simp] theorem State.setTally_tally : (s.setTally x).tally = x := rfl
@[simp] theorem State.setTally_reports : (s.setTally x).reports = s.reports := rfl
@[simp] theorem State.setTally_line : (s.setTally x).line = s.line := rfl
@[simp] theorem State.setTally_lamp : (s.setTally x).lamp = s.lamp := rfl
@[simp] theorem State.setTally_freeCount : (s.setTally x).freeCount = s.freeCount := rfl
@[simp] theorem State.setTally_pending : (s.setTally x).pending = s.pending := rfl
end

section
variable (s : State) (x : List ReportItem)
@[simp] theorem State.setReports_powered : (s.setReports x).powered = s.powered := rfl
@[simp] theorem State.setReports_straps : (s.setReports x).straps = s.straps := rfl
@[simp] theorem State.setReports_station : (s.setReports x).station = s.station := rfl
@[simp] theorem State.setReports_settings : (s.setReports x).settings = s.settings := rfl
@[simp] theorem State.setReports_sense : (s.setReports x).sense = s.sense := rfl
@[simp] theorem State.setReports_clock : (s.setReports x).clock = s.clock := rfl
@[simp] theorem State.setReports_queue : (s.setReports x).queue = s.queue := rfl
@[simp] theorem State.setReports_judge : (s.setReports x).judge = s.judge := rfl
@[simp] theorem State.setReports_chords : (s.setReports x).chords = s.chords := rfl
@[simp] theorem State.setReports_tally : (s.setReports x).tally = s.tally := rfl
@[simp] theorem State.setReports_reports : (s.setReports x).reports = x := rfl
@[simp] theorem State.setReports_line : (s.setReports x).line = s.line := rfl
@[simp] theorem State.setReports_lamp : (s.setReports x).lamp = s.lamp := rfl
@[simp] theorem State.setReports_freeCount : (s.setReports x).freeCount = s.freeCount := rfl
@[simp] theorem State.setReports_pending : (s.setReports x).pending = s.pending := rfl
end

section
variable (s : State) (x : LineController)
@[simp] theorem State.setLine_powered : (s.setLine x).powered = s.powered := rfl
@[simp] theorem State.setLine_straps : (s.setLine x).straps = s.straps := rfl
@[simp] theorem State.setLine_station : (s.setLine x).station = s.station := rfl
@[simp] theorem State.setLine_settings : (s.setLine x).settings = s.settings := rfl
@[simp] theorem State.setLine_sense : (s.setLine x).sense = s.sense := rfl
@[simp] theorem State.setLine_clock : (s.setLine x).clock = s.clock := rfl
@[simp] theorem State.setLine_queue : (s.setLine x).queue = s.queue := rfl
@[simp] theorem State.setLine_judge : (s.setLine x).judge = s.judge := rfl
@[simp] theorem State.setLine_chords : (s.setLine x).chords = s.chords := rfl
@[simp] theorem State.setLine_tally : (s.setLine x).tally = s.tally := rfl
@[simp] theorem State.setLine_reports : (s.setLine x).reports = s.reports := rfl
@[simp] theorem State.setLine_line : (s.setLine x).line = x := rfl
@[simp] theorem State.setLine_lamp : (s.setLine x).lamp = s.lamp := rfl
@[simp] theorem State.setLine_freeCount : (s.setLine x).freeCount = s.freeCount := rfl
@[simp] theorem State.setLine_pending : (s.setLine x).pending = s.pending := rfl
end

section
variable (s : State) (x : LampUnit)
@[simp] theorem State.setLamp_powered : (s.setLamp x).powered = s.powered := rfl
@[simp] theorem State.setLamp_straps : (s.setLamp x).straps = s.straps := rfl
@[simp] theorem State.setLamp_station : (s.setLamp x).station = s.station := rfl
@[simp] theorem State.setLamp_settings : (s.setLamp x).settings = s.settings := rfl
@[simp] theorem State.setLamp_sense : (s.setLamp x).sense = s.sense := rfl
@[simp] theorem State.setLamp_clock : (s.setLamp x).clock = s.clock := rfl
@[simp] theorem State.setLamp_queue : (s.setLamp x).queue = s.queue := rfl
@[simp] theorem State.setLamp_judge : (s.setLamp x).judge = s.judge := rfl
@[simp] theorem State.setLamp_chords : (s.setLamp x).chords = s.chords := rfl
@[simp] theorem State.setLamp_tally : (s.setLamp x).tally = s.tally := rfl
@[simp] theorem State.setLamp_reports : (s.setLamp x).reports = s.reports := rfl
@[simp] theorem State.setLamp_line : (s.setLamp x).line = s.line := rfl
@[simp] theorem State.setLamp_lamp : (s.setLamp x).lamp = x := rfl
@[simp] theorem State.setLamp_freeCount : (s.setLamp x).freeCount = s.freeCount := rfl
@[simp] theorem State.setLamp_pending : (s.setLamp x).pending = s.pending := rfl
end

section
variable (s : State) (x : Nat)
@[simp] theorem State.setFreeCount_powered : (s.setFreeCount x).powered = s.powered := rfl
@[simp] theorem State.setFreeCount_straps : (s.setFreeCount x).straps = s.straps := rfl
@[simp] theorem State.setFreeCount_station : (s.setFreeCount x).station = s.station := rfl
@[simp] theorem State.setFreeCount_settings : (s.setFreeCount x).settings = s.settings := rfl
@[simp] theorem State.setFreeCount_sense : (s.setFreeCount x).sense = s.sense := rfl
@[simp] theorem State.setFreeCount_clock : (s.setFreeCount x).clock = s.clock := rfl
@[simp] theorem State.setFreeCount_queue : (s.setFreeCount x).queue = s.queue := rfl
@[simp] theorem State.setFreeCount_judge : (s.setFreeCount x).judge = s.judge := rfl
@[simp] theorem State.setFreeCount_chords : (s.setFreeCount x).chords = s.chords := rfl
@[simp] theorem State.setFreeCount_tally : (s.setFreeCount x).tally = s.tally := rfl
@[simp] theorem State.setFreeCount_reports : (s.setFreeCount x).reports = s.reports := rfl
@[simp] theorem State.setFreeCount_line : (s.setFreeCount x).line = s.line := rfl
@[simp] theorem State.setFreeCount_lamp : (s.setFreeCount x).lamp = s.lamp := rfl
@[simp] theorem State.setFreeCount_freeCount : (s.setFreeCount x).freeCount = x := rfl
@[simp] theorem State.setFreeCount_pending : (s.setFreeCount x).pending = s.pending := rfl
end

section
variable (s : State) (x : List Instr)
@[simp] theorem State.setPending_powered : (s.setPending x).powered = s.powered := rfl
@[simp] theorem State.setPending_straps : (s.setPending x).straps = s.straps := rfl
@[simp] theorem State.setPending_station : (s.setPending x).station = s.station := rfl
@[simp] theorem State.setPending_settings : (s.setPending x).settings = s.settings := rfl
@[simp] theorem State.setPending_sense : (s.setPending x).sense = s.sense := rfl
@[simp] theorem State.setPending_clock : (s.setPending x).clock = s.clock := rfl
@[simp] theorem State.setPending_queue : (s.setPending x).queue = s.queue := rfl
@[simp] theorem State.setPending_judge : (s.setPending x).judge = s.judge := rfl
@[simp] theorem State.setPending_chords : (s.setPending x).chords = s.chords := rfl
@[simp] theorem State.setPending_tally : (s.setPending x).tally = s.tally := rfl
@[simp] theorem State.setPending_reports : (s.setPending x).reports = s.reports := rfl
@[simp] theorem State.setPending_line : (s.setPending x).line = s.line := rfl
@[simp] theorem State.setPending_lamp : (s.setPending x).lamp = s.lamp := rfl
@[simp] theorem State.setPending_freeCount : (s.setPending x).freeCount = s.freeCount := rfl
@[simp] theorem State.setPending_pending : (s.setPending x).pending = x := rfl
end

end Sys2Proof.Machine
end

