-- ==== Sys2Proof/Laws/Ops.lean ====
section
/-! SUPPORT. What each shared operation leaves alone: one lemma per operation, each conjunct one block of State. With these
as simp lemmas no proof about one block unfolds an operation on another. -/

namespace Sys2Proof.Machine

theorem whenPowered_eq (s : State) (f : State → State) (h : s.powered = true) : whenPowered s f = f s := by
  simp [whenPowered, h]

theorem whenPowered_off (s : State) (f : State → State) (h : s.powered = false) : whenPowered s f = s := by
  simp [whenPowered, h]

/-! ### Machine/Ops.lean -/

@[simp] theorem signalFlash_frame (r : JudgeResult) (s : State) :
    (signalFlash r s).powered = s.powered ∧ (signalFlash r s).straps = s.straps ∧
    (signalFlash r s).station = s.station ∧ (signalFlash r s).settings = s.settings ∧
    (signalFlash r s).sense = s.sense ∧ (signalFlash r s).clock = s.clock ∧ (signalFlash r s).queue = s.queue ∧
    (signalFlash r s).judge = s.judge ∧ (signalFlash r s).chords = s.chords ∧ (signalFlash r s).tally = s.tally ∧
    (signalFlash r s).reports = s.reports ∧ (signalFlash r s).line = s.line ∧
    (signalFlash r s).freeCount = s.freeCount ∧ (signalFlash r s).pending = s.pending := by
  simp [signalFlash]

@[simp] theorem setPattern_frame (p : Pattern) (s : State) :
    (setPattern p s).powered = s.powered ∧ (setPattern p s).straps = s.straps ∧
    (setPattern p s).station = s.station ∧ (setPattern p s).settings = s.settings ∧
    (setPattern p s).sense = s.sense ∧ (setPattern p s).clock = s.clock ∧ (setPattern p s).queue = s.queue ∧
    (setPattern p s).judge = s.judge ∧ (setPattern p s).chords = s.chords ∧ (setPattern p s).tally = s.tally ∧
    (setPattern p s).reports = s.reports ∧ (setPattern p s).line = s.line ∧
    (setPattern p s).freeCount = s.freeCount ∧ (setPattern p s).pending = s.pending := by
  simp [setPattern]

@[simp] theorem addItem_frame (kind : ItemKind) (due : Nat) (s : State) :
    (addItem kind due s).powered = s.powered ∧ (addItem kind due s).straps = s.straps ∧
    (addItem kind due s).station = s.station ∧ (addItem kind due s).settings = s.settings ∧
    (addItem kind due s).sense = s.sense ∧ (addItem kind due s).clock = s.clock ∧
    (addItem kind due s).queue = s.queue ∧ (addItem kind due s).judge = s.judge ∧
    (addItem kind due s).chords = s.chords ∧ (addItem kind due s).tally = s.tally ∧
    (addItem kind due s).line = s.line ∧ (addItem kind due s).lamp = s.lamp ∧
    (addItem kind due s).freeCount = s.freeCount ∧ (addItem kind due s).pending = s.pending := by
  simp [addItem]

@[simp] theorem updateEntry_frame (due : Nat) (f : NoteEntry → NoteEntry) (s : State) :
    (updateEntry due f s).powered = s.powered ∧ (updateEntry due f s).straps = s.straps ∧
    (updateEntry due f s).station = s.station ∧ (updateEntry due f s).settings = s.settings ∧
    (updateEntry due f s).sense = s.sense ∧ (updateEntry due f s).clock = s.clock ∧
    (updateEntry due f s).judge = s.judge ∧ (updateEntry due f s).chords = s.chords ∧
    (updateEntry due f s).tally = s.tally ∧ (updateEntry due f s).reports = s.reports ∧
    (updateEntry due f s).line = s.line ∧ (updateEntry due f s).lamp = s.lamp ∧
    (updateEntry due f s).freeCount = s.freeCount ∧ (updateEntry due f s).pending = s.pending := by
  simp [updateEntry]

@[simp] theorem removeEntry_frame (due : Nat) (s : State) :
    (removeEntry due s).powered = s.powered ∧ (removeEntry due s).straps = s.straps ∧
    (removeEntry due s).station = s.station ∧ (removeEntry due s).settings = s.settings ∧
    (removeEntry due s).sense = s.sense ∧ (removeEntry due s).clock = s.clock ∧ (removeEntry due s).judge = s.judge ∧
    (removeEntry due s).chords = s.chords ∧ (removeEntry due s).tally = s.tally ∧
    (removeEntry due s).reports = s.reports ∧ (removeEntry due s).line = s.line ∧ (removeEntry due s).lamp = s.lamp ∧
    (removeEntry due s).freeCount = s.freeCount ∧ (removeEntry due s).pending = s.pending := by
  simp [removeEntry]

@[simp] theorem updateRecord_frame (key : Nat) (f : ChordRecord → ChordRecord) (s : State) :
    (updateRecord key f s).powered = s.powered ∧ (updateRecord key f s).straps = s.straps ∧
    (updateRecord key f s).station = s.station ∧ (updateRecord key f s).settings = s.settings ∧
    (updateRecord key f s).sense = s.sense ∧ (updateRecord key f s).clock = s.clock ∧
    (updateRecord key f s).queue = s.queue ∧ (updateRecord key f s).judge = s.judge ∧
    (updateRecord key f s).tally = s.tally ∧ (updateRecord key f s).reports = s.reports ∧
    (updateRecord key f s).line = s.line ∧ (updateRecord key f s).lamp = s.lamp ∧
    (updateRecord key f s).freeCount = s.freeCount ∧ (updateRecord key f s).pending = s.pending := by
  simp [updateRecord]

@[simp] theorem removeRecord_frame (key : Nat) (s : State) :
    (removeRecord key s).powered = s.powered ∧ (removeRecord key s).straps = s.straps ∧
    (removeRecord key s).station = s.station ∧ (removeRecord key s).settings = s.settings ∧
    (removeRecord key s).sense = s.sense ∧ (removeRecord key s).clock = s.clock ∧
    (removeRecord key s).queue = s.queue ∧ (removeRecord key s).judge = s.judge ∧
    (removeRecord key s).tally = s.tally ∧ (removeRecord key s).reports = s.reports ∧
    (removeRecord key s).line = s.line ∧ (removeRecord key s).lamp = s.lamp ∧
    (removeRecord key s).freeCount = s.freeCount ∧ (removeRecord key s).pending = s.pending := by
  simp [removeRecord]

@[simp] theorem removeForced_frame (key : Nat) (s : State) :
    (removeForced key s).powered = s.powered ∧ (removeForced key s).straps = s.straps ∧
    (removeForced key s).station = s.station ∧ (removeForced key s).settings = s.settings ∧
    (removeForced key s).sense = s.sense ∧ (removeForced key s).clock = s.clock ∧
    (removeForced key s).queue = s.queue ∧ (removeForced key s).judge = s.judge ∧
    (removeForced key s).chords = s.chords ∧ (removeForced key s).tally = s.tally ∧
    (removeForced key s).line = s.line ∧ (removeForced key s).lamp = s.lamp ∧
    (removeForced key s).freeCount = s.freeCount ∧ (removeForced key s).pending = s.pending := by
  simp [removeForced]

@[simp] theorem emptySong_frame (s : State) :
    (emptySong s).powered = s.powered ∧ (emptySong s).straps = s.straps ∧ (emptySong s).station = s.station ∧
    (emptySong s).settings = s.settings ∧ (emptySong s).sense = s.sense ∧ (emptySong s).clock = s.clock ∧
    (emptySong s).judge = s.judge ∧ (emptySong s).tally = s.tally ∧ (emptySong s).line = s.line ∧
    (emptySong s).lamp = s.lamp ∧ (emptySong s).freeCount = s.freeCount ∧ (emptySong s).pending = s.pending := by
  simp [emptySong]

@[simp] theorem setState_frame (st : StationState) (silence : Option Nat) (s : State) :
    (setState st silence s).powered = s.powered ∧ (setState st silence s).straps = s.straps ∧
    (setState st silence s).settings = s.settings ∧ (setState st silence s).sense = s.sense ∧
    (setState st silence s).clock = s.clock ∧ (setState st silence s).queue = s.queue ∧
    (setState st silence s).judge = s.judge ∧ (setState st silence s).chords = s.chords ∧
    (setState st silence s).tally = s.tally ∧ (setState st silence s).reports = s.reports ∧
    (setState st silence s).line = s.line ∧ (setState st silence s).lamp = s.lamp ∧
    (setState st silence s).freeCount = s.freeCount ∧ (setState st silence s).pending = s.pending := by
  simp [setState]

@[simp] theorem enterFailed_frame (s : State) :
    (enterFailed s).powered = s.powered ∧ (enterFailed s).straps = s.straps ∧ (enterFailed s).settings = s.settings ∧
    (enterFailed s).sense = s.sense ∧ (enterFailed s).clock = s.clock ∧ (enterFailed s).judge = s.judge ∧
    (enterFailed s).tally = s.tally ∧ (enterFailed s).line = s.line ∧ (enterFailed s).freeCount = s.freeCount ∧
    (enterFailed s).pending = s.pending := by
  simp [enterFailed]

@[simp] theorem enterDone_frame (s : State) :
    (enterDone s).powered = s.powered ∧ (enterDone s).straps = s.straps ∧ (enterDone s).settings = s.settings ∧
    (enterDone s).sense = s.sense ∧ (enterDone s).clock = s.clock ∧ (enterDone s).queue = s.queue ∧
    (enterDone s).judge = s.judge ∧ (enterDone s).chords = s.chords ∧ (enterDone s).tally = s.tally ∧
    (enterDone s).reports = s.reports ∧ (enterDone s).line = s.line ∧ (enterDone s).lamp = s.lamp ∧
    (enterDone s).freeCount = s.freeCount ∧ (enterDone s).pending = s.pending := by
  simp [enterDone]

@[simp] theorem enterLost_frame (s : State) :
    (enterLost s).powered = s.powered ∧ (enterLost s).straps = s.straps ∧ (enterLost s).settings = s.settings ∧
    (enterLost s).sense = s.sense ∧ (enterLost s).clock = s.clock ∧ (enterLost s).queue = s.queue ∧
    (enterLost s).judge = s.judge ∧ (enterLost s).chords = s.chords ∧ (enterLost s).tally = s.tally ∧
    (enterLost s).reports = s.reports ∧ (enterLost s).line = s.line ∧ (enterLost s).freeCount = s.freeCount ∧
    (enterLost s).pending = s.pending := by
  simp [enterLost]

@[simp] theorem enterFault_frame (cause : FaultCause) (s : State) :
    (enterFault cause s).powered = s.powered ∧ (enterFault cause s).straps = s.straps ∧
    (enterFault cause s).settings = s.settings ∧ (enterFault cause s).sense = s.sense ∧
    (enterFault cause s).judge = s.judge ∧ (enterFault cause s).tally = s.tally ∧
    (enterFault cause s).freeCount = s.freeCount ∧ (enterFault cause s).pending = s.pending := by
  simp [enterFault]

@[simp] theorem heardFrame_frame (s : State) :
    (heardFrame s).powered = s.powered ∧ (heardFrame s).straps = s.straps ∧ (heardFrame s).settings = s.settings ∧
    (heardFrame s).sense = s.sense ∧ (heardFrame s).clock = s.clock ∧ (heardFrame s).queue = s.queue ∧
    (heardFrame s).judge = s.judge ∧ (heardFrame s).chords = s.chords ∧ (heardFrame s).tally = s.tally ∧
    (heardFrame s).reports = s.reports ∧ (heardFrame s).line = s.line ∧ (heardFrame s).freeCount = s.freeCount ∧
    (heardFrame s).pending = s.pending := by
  unfold heardFrame; (repeat' split) <;> simp

/-! ### Machine/Chords.lean -/

@[simp] theorem condemnInFlight_frame (s : State) :
    (condemnInFlight s).powered = s.powered ∧ (condemnInFlight s).straps = s.straps ∧
    (condemnInFlight s).station = s.station ∧ (condemnInFlight s).settings = s.settings ∧
    (condemnInFlight s).sense = s.sense ∧ (condemnInFlight s).clock = s.clock ∧ (condemnInFlight s).queue = s.queue ∧
    (condemnInFlight s).judge = s.judge ∧ (condemnInFlight s).chords = s.chords ∧
    (condemnInFlight s).tally = s.tally ∧ (condemnInFlight s).reports = s.reports ∧
    (condemnInFlight s).lamp = s.lamp ∧ (condemnInFlight s).freeCount = s.freeCount ∧
    (condemnInFlight s).pending = s.pending := by
  simp [condemnInFlight]

@[simp] theorem evict_frame (key : Nat) (s : State) :
    (evict key s).powered = s.powered ∧ (evict key s).straps = s.straps ∧ (evict key s).station = s.station ∧
    (evict key s).settings = s.settings ∧ (evict key s).sense = s.sense ∧ (evict key s).clock = s.clock ∧
    (evict key s).queue = s.queue ∧ (evict key s).judge = s.judge ∧ (evict key s).tally = s.tally ∧
    (evict key s).lamp = s.lamp ∧ (evict key s).freeCount = s.freeCount ∧ (evict key s).pending = s.pending := by
  unfold evict; (repeat' split) <;> simp

@[simp] theorem makeRoom_frame (s : State) :
    (makeRoom s).powered = s.powered ∧ (makeRoom s).straps = s.straps ∧ (makeRoom s).station = s.station ∧
    (makeRoom s).settings = s.settings ∧ (makeRoom s).sense = s.sense ∧ (makeRoom s).clock = s.clock ∧
    (makeRoom s).queue = s.queue ∧ (makeRoom s).judge = s.judge ∧ (makeRoom s).tally = s.tally ∧
    (makeRoom s).lamp = s.lamp ∧ (makeRoom s).freeCount = s.freeCount ∧ (makeRoom s).pending = s.pending := by
  unfold makeRoom; (repeat' split) <;> simp

@[simp] theorem addRecord_frame (r : ChordRecord) (s : State) :
    (addRecord r s).powered = s.powered ∧ (addRecord r s).straps = s.straps ∧ (addRecord r s).station = s.station ∧
    (addRecord r s).settings = s.settings ∧ (addRecord r s).sense = s.sense ∧ (addRecord r s).clock = s.clock ∧
    (addRecord r s).queue = s.queue ∧ (addRecord r s).judge = s.judge ∧ (addRecord r s).tally = s.tally ∧
    (addRecord r s).reports = s.reports ∧ (addRecord r s).line = s.line ∧ (addRecord r s).lamp = s.lamp ∧
    (addRecord r s).freeCount = s.freeCount ∧ (addRecord r s).pending = s.pending := by
  simp [addRecord]

@[simp] theorem tellChord_frame (e : NoteEntry) (g : Grade) (s : State) :
    (tellChord e g s).powered = s.powered ∧ (tellChord e g s).straps = s.straps ∧
    (tellChord e g s).station = s.station ∧ (tellChord e g s).settings = s.settings ∧
    (tellChord e g s).sense = s.sense ∧ (tellChord e g s).clock = s.clock ∧ (tellChord e g s).queue = s.queue ∧
    (tellChord e g s).judge = s.judge ∧ (tellChord e g s).tally = s.tally ∧ (tellChord e g s).lamp = s.lamp ∧
    (tellChord e g s).freeCount = s.freeCount ∧ (tellChord e g s).pending = s.pending := by
  unfold tellChord; (repeat' split) <;> simp

@[simp] theorem hearReport_frame (sender due : Nat) (g : Grade) (s : State) :
    (hearReport sender due g s).powered = s.powered ∧ (hearReport sender due g s).straps = s.straps ∧
    (hearReport sender due g s).station = s.station ∧ (hearReport sender due g s).settings = s.settings ∧
    (hearReport sender due g s).sense = s.sense ∧ (hearReport sender due g s).clock = s.clock ∧
    (hearReport sender due g s).queue = s.queue ∧ (hearReport sender due g s).judge = s.judge ∧
    (hearReport sender due g s).tally = s.tally ∧ (hearReport sender due g s).reports = s.reports ∧
    (hearReport sender due g s).line = s.line ∧ (hearReport sender due g s).lamp = s.lamp ∧
    (hearReport sender due g s).freeCount = s.freeCount ∧ (hearReport sender due g s).pending = s.pending := by
  unfold hearReport; (repeat' split) <;> simp

@[simp] theorem closeRecord_frame (sender due : Nat) (s : State) :
    (closeRecord sender due s).powered = s.powered ∧ (closeRecord sender due s).straps = s.straps ∧
    (closeRecord sender due s).station = s.station ∧ (closeRecord sender due s).settings = s.settings ∧
    (closeRecord sender due s).sense = s.sense ∧ (closeRecord sender due s).clock = s.clock ∧
    (closeRecord sender due s).queue = s.queue ∧ (closeRecord sender due s).judge = s.judge ∧
    (closeRecord sender due s).tally = s.tally ∧ (closeRecord sender due s).line = s.line ∧
    (closeRecord sender due s).lamp = s.lamp ∧ (closeRecord sender due s).freeCount = s.freeCount ∧
    (closeRecord sender due s).pending = s.pending := by
  unfold closeRecord; (repeat' split) <;> simp

@[simp] theorem closeEntry_frame (sender due : Nat) (s : State) :
    (closeEntry sender due s).powered = s.powered ∧ (closeEntry sender due s).straps = s.straps ∧
    (closeEntry sender due s).station = s.station ∧ (closeEntry sender due s).settings = s.settings ∧
    (closeEntry sender due s).sense = s.sense ∧ (closeEntry sender due s).clock = s.clock ∧
    (closeEntry sender due s).judge = s.judge ∧ (closeEntry sender due s).chords = s.chords ∧
    (closeEntry sender due s).tally = s.tally ∧ (closeEntry sender due s).reports = s.reports ∧
    (closeEntry sender due s).line = s.line ∧ (closeEntry sender due s).lamp = s.lamp ∧
    (closeEntry sender due s).freeCount = s.freeCount ∧ (closeEntry sender due s).pending = s.pending := by
  simp [closeEntry]

@[simp] theorem hearClosure_frame (sender due : Nat) (g : Grade) (s : State) :
    (hearClosure sender due g s).powered = s.powered ∧ (hearClosure sender due g s).straps = s.straps ∧
    (hearClosure sender due g s).station = s.station ∧ (hearClosure sender due g s).settings = s.settings ∧
    (hearClosure sender due g s).sense = s.sense ∧ (hearClosure sender due g s).clock = s.clock ∧
    (hearClosure sender due g s).judge = s.judge ∧ (hearClosure sender due g s).tally = s.tally ∧
    (hearClosure sender due g s).line = s.line ∧ (hearClosure sender due g s).freeCount = s.freeCount ∧
    (hearClosure sender due g s).pending = s.pending := by
  simp [hearClosure]

@[simp] theorem examineClosure_frame (sender due : Nat) (g : Grade) (s : State) :
    (examineClosure sender due g s).powered = s.powered ∧ (examineClosure sender due g s).straps = s.straps ∧
    (examineClosure sender due g s).station = s.station ∧ (examineClosure sender due g s).settings = s.settings ∧
    (examineClosure sender due g s).sense = s.sense ∧ (examineClosure sender due g s).clock = s.clock ∧
    (examineClosure sender due g s).judge = s.judge ∧ (examineClosure sender due g s).tally = s.tally ∧
    (examineClosure sender due g s).line = s.line ∧ (examineClosure sender due g s).freeCount = s.freeCount ∧
    (examineClosure sender due g s).pending = s.pending := by
  unfold examineClosure; (repeat' split) <;> simp

@[simp] theorem examineReport_frame (sender due : Nat) (g : Grade) (s : State) :
    (examineReport sender due g s).powered = s.powered ∧ (examineReport sender due g s).straps = s.straps ∧
    (examineReport sender due g s).station = s.station ∧ (examineReport sender due g s).settings = s.settings ∧
    (examineReport sender due g s).sense = s.sense ∧ (examineReport sender due g s).clock = s.clock ∧
    (examineReport sender due g s).queue = s.queue ∧ (examineReport sender due g s).judge = s.judge ∧
    (examineReport sender due g s).tally = s.tally ∧ (examineReport sender due g s).reports = s.reports ∧
    (examineReport sender due g s).line = s.line ∧ (examineReport sender due g s).lamp = s.lamp ∧
    (examineReport sender due g s).freeCount = s.freeCount ∧ (examineReport sender due g s).pending = s.pending := by
  unfold examineReport; (repeat' split) <;> simp

@[simp] theorem takeForced_frame (key : Nat) (s : State) :
    (takeForced key s).powered = s.powered ∧ (takeForced key s).straps = s.straps ∧
    (takeForced key s).station = s.station ∧ (takeForced key s).settings = s.settings ∧
    (takeForced key s).sense = s.sense ∧ (takeForced key s).clock = s.clock ∧ (takeForced key s).queue = s.queue ∧
    (takeForced key s).judge = s.judge ∧ (takeForced key s).tally = s.tally ∧ (takeForced key s).line = s.line ∧
    (takeForced key s).lamp = s.lamp ∧ (takeForced key s).freeCount = s.freeCount ∧
    (takeForced key s).pending = s.pending := by
  unfold takeForced; (repeat' split) <;> simp

/-! ### Machine/Judge.lean -/

@[simp] theorem resolveTap_frame (e : NoteEntry) (h : HeadResult) (s : State) :
    (resolveTap e h s).powered = s.powered ∧ (resolveTap e h s).straps = s.straps ∧
    (resolveTap e h s).station = s.station ∧ (resolveTap e h s).settings = s.settings ∧
    (resolveTap e h s).sense = s.sense ∧ (resolveTap e h s).clock = s.clock ∧ (resolveTap e h s).judge = s.judge ∧
    (resolveTap e h s).tally = s.tally ∧ (resolveTap e h s).freeCount = s.freeCount ∧
    (resolveTap e h s).pending = s.pending := by
  simp [resolveTap]

@[simp] theorem resolveTail_frame (due : Nat) (r : HoldResult) (s : State) :
    (resolveTail due r s).powered = s.powered ∧ (resolveTail due r s).straps = s.straps ∧
    (resolveTail due r s).station = s.station ∧ (resolveTail due r s).settings = s.settings ∧
    (resolveTail due r s).sense = s.sense ∧ (resolveTail due r s).clock = s.clock ∧
    (resolveTail due r s).judge = s.judge ∧ (resolveTail due r s).chords = s.chords ∧
    (resolveTail due r s).tally = s.tally ∧ (resolveTail due r s).line = s.line ∧
    (resolveTail due r s).freeCount = s.freeCount ∧ (resolveTail due r s).pending = s.pending := by
  simp [resolveTail]

@[simp] theorem startHold_frame (e : NoteEntry) (h : HeadResult) (s : State) :
    (startHold e h s).powered = s.powered ∧ (startHold e h s).straps = s.straps ∧
    (startHold e h s).station = s.station ∧ (startHold e h s).settings = s.settings ∧
    (startHold e h s).sense = s.sense ∧ (startHold e h s).clock = s.clock ∧ (startHold e h s).judge = s.judge ∧
    (startHold e h s).tally = s.tally ∧ (startHold e h s).freeCount = s.freeCount ∧
    (startHold e h s).pending = s.pending := by
  simp [startHold]

@[simp] theorem strikeHold_frame (e : NoteEntry) (h : HeadResult) (length : Nat) (s : State) :
    (strikeHold e h length s).powered = s.powered ∧ (strikeHold e h length s).straps = s.straps ∧
    (strikeHold e h length s).station = s.station ∧ (strikeHold e h length s).settings = s.settings ∧
    (strikeHold e h length s).sense = s.sense ∧ (strikeHold e h length s).clock = s.clock ∧
    (strikeHold e h length s).judge = s.judge ∧ (strikeHold e h length s).tally = s.tally ∧
    (strikeHold e h length s).freeCount = s.freeCount ∧ (strikeHold e h length s).pending = s.pending := by
  simp only [strikeHold]; (repeat' split) <;> simp

@[simp] theorem lapseHold_frame (e : NoteEntry) (s : State) :
    (lapseHold e s).powered = s.powered ∧ (lapseHold e s).straps = s.straps ∧ (lapseHold e s).station = s.station ∧
    (lapseHold e s).settings = s.settings ∧ (lapseHold e s).sense = s.sense ∧ (lapseHold e s).clock = s.clock ∧
    (lapseHold e s).judge = s.judge ∧ (lapseHold e s).tally = s.tally ∧ (lapseHold e s).freeCount = s.freeCount ∧
    (lapseHold e s).pending = s.pending := by
  simp [lapseHold]

@[simp] theorem reGrip_frame (e : NoteEntry) (s : State) :
    (reGrip e s).powered = s.powered ∧ (reGrip e s).straps = s.straps ∧ (reGrip e s).station = s.station ∧
    (reGrip e s).settings = s.settings ∧ (reGrip e s).sense = s.sense ∧ (reGrip e s).clock = s.clock ∧
    (reGrip e s).judge = s.judge ∧ (reGrip e s).chords = s.chords ∧ (reGrip e s).tally = s.tally ∧
    (reGrip e s).reports = s.reports ∧ (reGrip e s).line = s.line ∧ (reGrip e s).lamp = s.lamp ∧
    (reGrip e s).freeCount = s.freeCount ∧ (reGrip e s).pending = s.pending := by
  simp [reGrip]

@[simp] theorem matchPress_frame (e : NoteEntry) (time : Nat) (s : State) :
    (matchPress e time s).powered = s.powered ∧ (matchPress e time s).straps = s.straps ∧
    (matchPress e time s).station = s.station ∧ (matchPress e time s).settings = s.settings ∧
    (matchPress e time s).sense = s.sense ∧ (matchPress e time s).clock = s.clock ∧
    (matchPress e time s).judge = s.judge ∧ (matchPress e time s).tally = s.tally ∧
    (matchPress e time s).freeCount = s.freeCount ∧ (matchPress e time s).pending = s.pending := by
  unfold matchPress; (repeat' split) <;> simp

@[simp] theorem judgePress_frame (time : Nat) (s : State) :
    (judgePress time s).powered = s.powered ∧ (judgePress time s).straps = s.straps ∧
    (judgePress time s).station = s.station ∧ (judgePress time s).settings = s.settings ∧
    (judgePress time s).sense = s.sense ∧ (judgePress time s).clock = s.clock ∧ (judgePress time s).judge = s.judge ∧
    (judgePress time s).tally = s.tally ∧ (judgePress time s).freeCount = s.freeCount ∧
    (judgePress time s).pending = s.pending := by
  unfold judgePress; (repeat' split) <;> simp

@[simp] theorem judgeRelease_frame (time : Nat) (s : State) :
    (judgeRelease time s).powered = s.powered ∧ (judgeRelease time s).straps = s.straps ∧
    (judgeRelease time s).station = s.station ∧ (judgeRelease time s).settings = s.settings ∧
    (judgeRelease time s).sense = s.sense ∧ (judgeRelease time s).clock = s.clock ∧
    (judgeRelease time s).judge = s.judge ∧ (judgeRelease time s).chords = s.chords ∧
    (judgeRelease time s).tally = s.tally ∧ (judgeRelease time s).line = s.line ∧
    (judgeRelease time s).freeCount = s.freeCount ∧ (judgeRelease time s).pending = s.pending := by
  simp only [judgeRelease]; (repeat' split) <;> simp

@[simp] theorem emitPress_frame (stamp : Nat) (s : State) :
    (emitPress stamp s).powered = s.powered ∧ (emitPress stamp s).straps = s.straps ∧
    (emitPress stamp s).station = s.station ∧ (emitPress stamp s).settings = s.settings ∧
    (emitPress stamp s).sense = s.sense ∧ (emitPress stamp s).clock = s.clock ∧ (emitPress stamp s).judge = s.judge ∧
    (emitPress stamp s).tally = s.tally ∧ (emitPress stamp s).freeCount = s.freeCount ∧
    (emitPress stamp s).pending = s.pending := by
  unfold emitPress; (repeat' split) <;> simp

@[simp] theorem emitRelease_frame (stamp : Nat) (s : State) :
    (emitRelease stamp s).powered = s.powered ∧ (emitRelease stamp s).straps = s.straps ∧
    (emitRelease stamp s).station = s.station ∧ (emitRelease stamp s).settings = s.settings ∧
    (emitRelease stamp s).sense = s.sense ∧ (emitRelease stamp s).clock = s.clock ∧
    (emitRelease stamp s).judge = s.judge ∧ (emitRelease stamp s).chords = s.chords ∧
    (emitRelease stamp s).tally = s.tally ∧ (emitRelease stamp s).line = s.line ∧
    (emitRelease stamp s).freeCount = s.freeCount ∧ (emitRelease stamp s).pending = s.pending := by
  unfold emitRelease; (repeat' split) <;> simp

@[simp] theorem takeLapse_frame (due : Nat) (s : State) :
    (takeLapse due s).powered = s.powered ∧ (takeLapse due s).straps = s.straps ∧
    (takeLapse due s).station = s.station ∧ (takeLapse due s).settings = s.settings ∧
    (takeLapse due s).sense = s.sense ∧ (takeLapse due s).clock = s.clock ∧ (takeLapse due s).judge = s.judge ∧
    (takeLapse due s).tally = s.tally ∧ (takeLapse due s).freeCount = s.freeCount ∧
    (takeLapse due s).pending = s.pending := by
  unfold takeLapse; (repeat' split) <;> simp

@[simp] theorem takeHoldEnd_frame (due : Nat) (s : State) :
    (takeHoldEnd due s).powered = s.powered ∧ (takeHoldEnd due s).straps = s.straps ∧
    (takeHoldEnd due s).station = s.station ∧ (takeHoldEnd due s).settings = s.settings ∧
    (takeHoldEnd due s).sense = s.sense ∧ (takeHoldEnd due s).clock = s.clock ∧ (takeHoldEnd due s).judge = s.judge ∧
    (takeHoldEnd due s).chords = s.chords ∧ (takeHoldEnd due s).tally = s.tally ∧ (takeHoldEnd due s).line = s.line ∧
    (takeHoldEnd due s).freeCount = s.freeCount ∧ (takeHoldEnd due s).pending = s.pending := by
  unfold takeHoldEnd; (repeat' split) <;> simp

@[simp] theorem takeGrace_frame (due : Nat) (s : State) :
    (takeGrace due s).powered = s.powered ∧ (takeGrace due s).straps = s.straps ∧
    (takeGrace due s).station = s.station ∧ (takeGrace due s).settings = s.settings ∧
    (takeGrace due s).sense = s.sense ∧ (takeGrace due s).clock = s.clock ∧ (takeGrace due s).judge = s.judge ∧
    (takeGrace due s).chords = s.chords ∧ (takeGrace due s).tally = s.tally ∧ (takeGrace due s).line = s.line ∧
    (takeGrace due s).freeCount = s.freeCount ∧ (takeGrace due s).pending = s.pending := by
  unfold takeGrace; (repeat' split) <;> simp

/-! ### Machine/SongTime.lean -/

@[simp] theorem takeThreshold_frame (t : Threshold) (s : State) :
    (takeThreshold s t).powered = s.powered ∧ (takeThreshold s t).straps = s.straps ∧
    (takeThreshold s t).station = s.station ∧ (takeThreshold s t).settings = s.settings ∧
    (takeThreshold s t).sense = s.sense ∧ (takeThreshold s t).clock = s.clock ∧ (takeThreshold s t).judge = s.judge ∧
    (takeThreshold s t).tally = s.tally ∧ (takeThreshold s t).freeCount = s.freeCount ∧
    (takeThreshold s t).pending = s.pending := by
  unfold takeThreshold; split <;> simp

@[simp] theorem foldThresholds_frame (ts : List Threshold) (s : State) :
    (ts.foldl takeThreshold s).powered = s.powered ∧ (ts.foldl takeThreshold s).straps = s.straps ∧
    (ts.foldl takeThreshold s).station = s.station ∧ (ts.foldl takeThreshold s).settings = s.settings ∧
    (ts.foldl takeThreshold s).sense = s.sense ∧ (ts.foldl takeThreshold s).clock = s.clock ∧
    (ts.foldl takeThreshold s).judge = s.judge ∧ (ts.foldl takeThreshold s).tally = s.tally ∧
    (ts.foldl takeThreshold s).freeCount = s.freeCount ∧ (ts.foldl takeThreshold s).pending = s.pending := by
  induction ts generalizing s with
  | nil => simp
  | cons t ts ih => simp [ih]

@[simp] theorem takeThresholds_frame (old new : Nat) (s : State) :
    (takeThresholds old new s).powered = s.powered ∧ (takeThresholds old new s).straps = s.straps ∧
    (takeThresholds old new s).station = s.station ∧ (takeThresholds old new s).settings = s.settings ∧
    (takeThresholds old new s).sense = s.sense ∧ (takeThresholds old new s).clock = s.clock ∧
    (takeThresholds old new s).judge = s.judge ∧ (takeThresholds old new s).tally = s.tally ∧
    (takeThresholds old new s).freeCount = s.freeCount ∧ (takeThresholds old new s).pending = s.pending := by
  unfold takeThresholds; (repeat' split) <;> simp

@[simp] theorem examineDone_frame (s : State) :
    (examineDone s).powered = s.powered ∧ (examineDone s).straps = s.straps ∧ (examineDone s).settings = s.settings ∧
    (examineDone s).sense = s.sense ∧ (examineDone s).clock = s.clock ∧ (examineDone s).queue = s.queue ∧
    (examineDone s).judge = s.judge ∧ (examineDone s).chords = s.chords ∧ (examineDone s).tally = s.tally ∧
    (examineDone s).reports = s.reports ∧ (examineDone s).line = s.line ∧ (examineDone s).lamp = s.lamp ∧
    (examineDone s).freeCount = s.freeCount ∧ (examineDone s).pending = s.pending := by
  unfold examineDone; (repeat' split) <;> simp

@[simp] theorem reportAdvance_frame (old new : Nat) (s : State) :
    (reportAdvance old new s).powered = s.powered ∧ (reportAdvance old new s).straps = s.straps ∧
    (reportAdvance old new s).settings = s.settings ∧ (reportAdvance old new s).sense = s.sense ∧
    (reportAdvance old new s).clock = s.clock ∧ (reportAdvance old new s).judge = s.judge ∧
    (reportAdvance old new s).tally = s.tally ∧ (reportAdvance old new s).freeCount = s.freeCount ∧
    (reportAdvance old new s).pending = s.pending := by
  simp [reportAdvance]

@[simp] theorem tickBoundary_frame (s : State) :
    (tickBoundary s).powered = s.powered ∧ (tickBoundary s).straps = s.straps ∧
    (tickBoundary s).settings = s.settings ∧ (tickBoundary s).sense = s.sense ∧ (tickBoundary s).judge = s.judge ∧
    (tickBoundary s).tally = s.tally ∧ (tickBoundary s).freeCount = s.freeCount ∧
    (tickBoundary s).pending = s.pending := by
  unfold tickBoundary; (repeat' split) <;> simp

@[simp] theorem correctForward_frame (m : Nat) (s : State) :
    (correctForward m s).powered = s.powered ∧ (correctForward m s).straps = s.straps ∧
    (correctForward m s).settings = s.settings ∧ (correctForward m s).sense = s.sense ∧
    (correctForward m s).judge = s.judge ∧ (correctForward m s).tally = s.tally ∧
    (correctForward m s).freeCount = s.freeCount ∧ (correctForward m s).pending = s.pending := by
  simp only [correctForward]; (repeat' split) <;> simp

@[simp] theorem settleMark_frame (s : State) :
    (settleMark s).powered = s.powered ∧ (settleMark s).straps = s.straps ∧ (settleMark s).station = s.station ∧
    (settleMark s).settings = s.settings ∧ (settleMark s).sense = s.sense ∧ (settleMark s).queue = s.queue ∧
    (settleMark s).judge = s.judge ∧ (settleMark s).chords = s.chords ∧ (settleMark s).tally = s.tally ∧
    (settleMark s).reports = s.reports ∧ (settleMark s).line = s.line ∧ (settleMark s).lamp = s.lamp ∧
    (settleMark s).freeCount = s.freeCount ∧ (settleMark s).pending = s.pending := by
  simp [settleMark]

@[simp] theorem takeMark_frame (m : Nat) (s : State) :
    (takeMark m s).powered = s.powered ∧ (takeMark m s).straps = s.straps ∧ (takeMark m s).settings = s.settings ∧
    (takeMark m s).sense = s.sense ∧ (takeMark m s).judge = s.judge ∧ (takeMark m s).tally = s.tally ∧
    (takeMark m s).freeCount = s.freeCount ∧ (takeMark m s).pending = s.pending := by
  simp [takeMark]

/-! ### Machine/Tally.lean -/

@[simp] theorem testFailure_frame (s : State) :
    (testFailure s).powered = s.powered ∧ (testFailure s).straps = s.straps ∧ (testFailure s).settings = s.settings ∧
    (testFailure s).sense = s.sense ∧ (testFailure s).clock = s.clock ∧ (testFailure s).judge = s.judge ∧
    (testFailure s).tally = s.tally ∧ (testFailure s).line = s.line ∧ (testFailure s).freeCount = s.freeCount ∧
    (testFailure s).pending = s.pending := by
  unfold testFailure; (repeat' split) <;> simp

@[simp] theorem applyTallies_frame (j : JudgeLatch) (s : State) :
    (applyTallies j s).powered = s.powered ∧ (applyTallies j s).straps = s.straps ∧
    (applyTallies j s).station = s.station ∧ (applyTallies j s).settings = s.settings ∧
    (applyTallies j s).sense = s.sense ∧ (applyTallies j s).clock = s.clock ∧ (applyTallies j s).queue = s.queue ∧
    (applyTallies j s).judge = s.judge ∧ (applyTallies j s).chords = s.chords ∧
    (applyTallies j s).reports = s.reports ∧ (applyTallies j s).line = s.line ∧ (applyTallies j s).lamp = s.lamp ∧
    (applyTallies j s).freeCount = s.freeCount ∧ (applyTallies j s).pending = s.pending := by
  unfold applyTallies; (repeat' split) <;> simp

@[simp] theorem adopt_frame (sender : Nat) (c : Carried) (s : State) :
    (adopt sender c s).powered = s.powered ∧ (adopt sender c s).straps = s.straps ∧
    (adopt sender c s).settings = s.settings ∧ (adopt sender c s).sense = s.sense ∧
    (adopt sender c s).clock = s.clock ∧ (adopt sender c s).judge = s.judge ∧ (adopt sender c s).line = s.line ∧
    (adopt sender c s).freeCount = s.freeCount ∧ (adopt sender c s).pending = s.pending := by
  unfold adopt; (repeat' split) <;> simp

@[simp] theorem entryReported_frame (item : ReportItem) (s : State) :
    (entryReported item s).powered = s.powered ∧ (entryReported item s).straps = s.straps ∧
    (entryReported item s).station = s.station ∧ (entryReported item s).settings = s.settings ∧
    (entryReported item s).sense = s.sense ∧ (entryReported item s).clock = s.clock ∧
    (entryReported item s).judge = s.judge ∧ (entryReported item s).chords = s.chords ∧
    (entryReported item s).tally = s.tally ∧ (entryReported item s).reports = s.reports ∧
    (entryReported item s).line = s.line ∧ (entryReported item s).lamp = s.lamp ∧
    (entryReported item s).freeCount = s.freeCount ∧ (entryReported item s).pending = s.pending := by
  unfold entryReported; (repeat' split) <;> simp

@[simp] theorem memberSent_frame (due : Nat) (s : State) :
    (memberSent due s).powered = s.powered ∧ (memberSent due s).straps = s.straps ∧
    (memberSent due s).station = s.station ∧ (memberSent due s).settings = s.settings ∧
    (memberSent due s).sense = s.sense ∧ (memberSent due s).clock = s.clock ∧ (memberSent due s).queue = s.queue ∧
    (memberSent due s).judge = s.judge ∧ (memberSent due s).tally = s.tally ∧ (memberSent due s).line = s.line ∧
    (memberSent due s).lamp = s.lamp ∧ (memberSent due s).freeCount = s.freeCount ∧
    (memberSent due s).pending = s.pending := by
  simp only [memberSent]; (repeat' split) <;> simp

@[simp] theorem closeOwnRecord_frame (due : Nat) (s : State) :
    (closeOwnRecord due s).powered = s.powered ∧ (closeOwnRecord due s).straps = s.straps ∧
    (closeOwnRecord due s).station = s.station ∧ (closeOwnRecord due s).settings = s.settings ∧
    (closeOwnRecord due s).sense = s.sense ∧ (closeOwnRecord due s).clock = s.clock ∧
    (closeOwnRecord due s).queue = s.queue ∧ (closeOwnRecord due s).judge = s.judge ∧
    (closeOwnRecord due s).tally = s.tally ∧ (closeOwnRecord due s).line = s.line ∧
    (closeOwnRecord due s).lamp = s.lamp ∧ (closeOwnRecord due s).freeCount = s.freeCount ∧
    (closeOwnRecord due s).pending = s.pending := by
  unfold closeOwnRecord; (repeat' split) <;> simp

@[simp] theorem chordReported_frame (j : JudgeLatch) (s : State) :
    (chordReported j s).powered = s.powered ∧ (chordReported j s).straps = s.straps ∧
    (chordReported j s).station = s.station ∧ (chordReported j s).settings = s.settings ∧
    (chordReported j s).sense = s.sense ∧ (chordReported j s).clock = s.clock ∧ (chordReported j s).queue = s.queue ∧
    (chordReported j s).judge = s.judge ∧ (chordReported j s).tally = s.tally ∧ (chordReported j s).line = s.line ∧
    (chordReported j s).freeCount = s.freeCount ∧ (chordReported j s).pending = s.pending := by
  unfold chordReported; (repeat' split) <;> simp

@[simp] theorem judgeCompleted_frame (j : JudgeLatch) (s : State) :
    (judgeCompleted j s).powered = s.powered ∧ (judgeCompleted j s).straps = s.straps ∧
    (judgeCompleted j s).settings = s.settings ∧ (judgeCompleted j s).sense = s.sense ∧
    (judgeCompleted j s).clock = s.clock ∧ (judgeCompleted j s).judge = s.judge ∧
    (judgeCompleted j s).line = s.line ∧ (judgeCompleted j s).freeCount = s.freeCount ∧
    (judgeCompleted j s).pending = s.pending := by
  simp only [judgeCompleted]; split <;> simp

/-! ### Machine/Notes.lean -/

@[simp] theorem takeInsertion_frame (s : State) :
    (takeInsertion s).powered = s.powered ∧ (takeInsertion s).straps = s.straps ∧
    (takeInsertion s).station = s.station ∧ (takeInsertion s).settings = s.settings ∧
    (takeInsertion s).sense = s.sense ∧ (takeInsertion s).clock = s.clock ∧ (takeInsertion s).judge = s.judge ∧
    (takeInsertion s).chords = s.chords ∧ (takeInsertion s).tally = s.tally ∧ (takeInsertion s).reports = s.reports ∧
    (takeInsertion s).line = s.line ∧ (takeInsertion s).lamp = s.lamp ∧ (takeInsertion s).freeCount = s.freeCount ∧
    (takeInsertion s).pending = s.pending := by
  unfold takeInsertion; (repeat' split) <;> simp

@[simp] theorem recordRefusal_frame (r : RefusalReason) (s : State) :
    (recordRefusal r s).powered = s.powered ∧ (recordRefusal r s).straps = s.straps ∧
    (recordRefusal r s).station = s.station ∧ (recordRefusal r s).settings = s.settings ∧
    (recordRefusal r s).sense = s.sense ∧ (recordRefusal r s).clock = s.clock ∧ (recordRefusal r s).judge = s.judge ∧
    (recordRefusal r s).chords = s.chords ∧ (recordRefusal r s).tally = s.tally ∧
    (recordRefusal r s).reports = s.reports ∧ (recordRefusal r s).line = s.line ∧ (recordRefusal r s).lamp = s.lamp ∧
    (recordRefusal r s).freeCount = s.freeCount ∧ (recordRefusal r s).pending = s.pending := by
  simp [recordRefusal]

/-! ### Machine/Lamps.lean -/

@[simp] theorem pwmBoundary_frame (sensed : Quad ChannelSense) (s : State) :
    (pwmBoundary sensed s).powered = s.powered ∧ (pwmBoundary sensed s).straps = s.straps ∧
    (pwmBoundary sensed s).station = s.station ∧ (pwmBoundary sensed s).settings = s.settings ∧
    (pwmBoundary sensed s).sense = s.sense ∧ (pwmBoundary sensed s).clock = s.clock ∧
    (pwmBoundary sensed s).queue = s.queue ∧ (pwmBoundary sensed s).judge = s.judge ∧
    (pwmBoundary sensed s).chords = s.chords ∧ (pwmBoundary sensed s).tally = s.tally ∧
    (pwmBoundary sensed s).reports = s.reports ∧ (pwmBoundary sensed s).line = s.line ∧
    (pwmBoundary sensed s).freeCount = s.freeCount ∧ (pwmBoundary sensed s).pending = s.pending := by
  simp [pwmBoundary]

@[simp] theorem flashStep_frame (s : State) :
    (flashStep s).powered = s.powered ∧ (flashStep s).straps = s.straps ∧ (flashStep s).station = s.station ∧
    (flashStep s).settings = s.settings ∧ (flashStep s).sense = s.sense ∧ (flashStep s).clock = s.clock ∧
    (flashStep s).queue = s.queue ∧ (flashStep s).judge = s.judge ∧ (flashStep s).chords = s.chords ∧
    (flashStep s).tally = s.tally ∧ (flashStep s).reports = s.reports ∧ (flashStep s).line = s.line ∧
    (flashStep s).freeCount = s.freeCount ∧ (flashStep s).pending = s.pending := by
  simp [flashStep]

@[simp] theorem otherHalf_frame (s : State) :
    (otherHalf s).powered = s.powered ∧ (otherHalf s).straps = s.straps ∧ (otherHalf s).station = s.station ∧
    (otherHalf s).settings = s.settings ∧ (otherHalf s).sense = s.sense ∧ (otherHalf s).clock = s.clock ∧
    (otherHalf s).queue = s.queue ∧ (otherHalf s).judge = s.judge ∧ (otherHalf s).chords = s.chords ∧
    (otherHalf s).tally = s.tally ∧ (otherHalf s).reports = s.reports ∧ (otherHalf s).line = s.line ∧
    (otherHalf s).freeCount = s.freeCount ∧ (otherHalf s).pending = s.pending := by
  unfold otherHalf; (repeat' split) <;> simp

@[simp] theorem clearLatches_frame (s : State) :
    (clearLatches s).powered = s.powered ∧ (clearLatches s).straps = s.straps ∧
    (clearLatches s).station = s.station ∧ (clearLatches s).settings = s.settings ∧
    (clearLatches s).sense = s.sense ∧ (clearLatches s).clock = s.clock ∧ (clearLatches s).queue = s.queue ∧
    (clearLatches s).judge = s.judge ∧ (clearLatches s).chords = s.chords ∧ (clearLatches s).tally = s.tally ∧
    (clearLatches s).reports = s.reports ∧ (clearLatches s).line = s.line ∧
    (clearLatches s).freeCount = s.freeCount ∧ (clearLatches s).pending = s.pending := by
  simp [clearLatches]

@[simp] theorem setLayer_frame (layer : LampLayer) (colour : Quad Nat) (s : State) :
    (setLayer layer colour s).powered = s.powered ∧ (setLayer layer colour s).straps = s.straps ∧
    (setLayer layer colour s).station = s.station ∧ (setLayer layer colour s).settings = s.settings ∧
    (setLayer layer colour s).sense = s.sense ∧ (setLayer layer colour s).clock = s.clock ∧
    (setLayer layer colour s).queue = s.queue ∧ (setLayer layer colour s).judge = s.judge ∧
    (setLayer layer colour s).chords = s.chords ∧ (setLayer layer colour s).tally = s.tally ∧
    (setLayer layer colour s).reports = s.reports ∧ (setLayer layer colour s).line = s.line ∧
    (setLayer layer colour s).freeCount = s.freeCount ∧ (setLayer layer colour s).pending = s.pending := by
  unfold setLayer; (repeat' split) <;> simp

@[simp] theorem takeLamp_frame (f : LampFrame) (clear : Bool) (s : State) :
    (takeLamp f clear s).powered = s.powered ∧ (takeLamp f clear s).straps = s.straps ∧
    (takeLamp f clear s).station = s.station ∧ (takeLamp f clear s).settings = s.settings ∧
    (takeLamp f clear s).sense = s.sense ∧ (takeLamp f clear s).clock = s.clock ∧
    (takeLamp f clear s).queue = s.queue ∧ (takeLamp f clear s).judge = s.judge ∧
    (takeLamp f clear s).chords = s.chords ∧ (takeLamp f clear s).tally = s.tally ∧
    (takeLamp f clear s).reports = s.reports ∧ (takeLamp f clear s).line = s.line ∧
    (takeLamp f clear s).freeCount = s.freeCount ∧ (takeLamp f clear s).pending = s.pending := by
  simp only [takeLamp]; split <;> simp

/-! ### Machine/Sense.lean -/

@[simp] theorem setDetector_frame (d : Detector) (s : State) :
    (setDetector d s).powered = s.powered ∧ (setDetector d s).straps = s.straps ∧
    (setDetector d s).station = s.station ∧ (setDetector d s).settings = s.settings ∧
    (setDetector d s).clock = s.clock ∧ (setDetector d s).queue = s.queue ∧ (setDetector d s).judge = s.judge ∧
    (setDetector d s).chords = s.chords ∧ (setDetector d s).tally = s.tally ∧ (setDetector d s).reports = s.reports ∧
    (setDetector d s).line = s.line ∧ (setDetector d s).lamp = s.lamp ∧ (setDetector d s).freeCount = s.freeCount ∧
    (setDetector d s).pending = s.pending := by
  simp [setDetector]

@[simp] theorem confirmPress_frame (s : State) :
    (confirmPress s).powered = s.powered ∧ (confirmPress s).straps = s.straps ∧
    (confirmPress s).station = s.station ∧ (confirmPress s).settings = s.settings ∧
    (confirmPress s).clock = s.clock ∧ (confirmPress s).judge = s.judge ∧ (confirmPress s).tally = s.tally ∧
    (confirmPress s).freeCount = s.freeCount ∧ (confirmPress s).pending = s.pending := by
  unfold confirmPress; (repeat' split) <;> simp

@[simp] theorem confirmRelease_frame (s : State) :
    (confirmRelease s).powered = s.powered ∧ (confirmRelease s).straps = s.straps ∧
    (confirmRelease s).station = s.station ∧ (confirmRelease s).settings = s.settings ∧
    (confirmRelease s).clock = s.clock ∧ (confirmRelease s).judge = s.judge ∧ (confirmRelease s).chords = s.chords ∧
    (confirmRelease s).tally = s.tally ∧ (confirmRelease s).line = s.line ∧
    (confirmRelease s).freeCount = s.freeCount ∧ (confirmRelease s).pending = s.pending := by
  unfold confirmRelease; (repeat' split) <;> simp

@[simp] theorem detect_frame (s : State) :
    (detect s).powered = s.powered ∧ (detect s).straps = s.straps ∧ (detect s).station = s.station ∧
    (detect s).settings = s.settings ∧ (detect s).clock = s.clock ∧ (detect s).judge = s.judge ∧
    (detect s).tally = s.tally ∧ (detect s).freeCount = s.freeCount ∧ (detect s).pending = s.pending := by
  unfold detect; (repeat' split) <;> simp

@[simp] theorem trackBaselines_frame (s : State) :
    (trackBaselines s).powered = s.powered ∧ (trackBaselines s).straps = s.straps ∧
    (trackBaselines s).station = s.station ∧ (trackBaselines s).settings = s.settings ∧
    (trackBaselines s).clock = s.clock ∧ (trackBaselines s).queue = s.queue ∧ (trackBaselines s).judge = s.judge ∧
    (trackBaselines s).chords = s.chords ∧ (trackBaselines s).tally = s.tally ∧
    (trackBaselines s).reports = s.reports ∧ (trackBaselines s).line = s.line ∧ (trackBaselines s).lamp = s.lamp ∧
    (trackBaselines s).freeCount = s.freeCount ∧ (trackBaselines s).pending = s.pending := by
  simp [trackBaselines]

@[simp] theorem baselineStage_frame (s : State) :
    (baselineStage s).powered = s.powered ∧ (baselineStage s).straps = s.straps ∧
    (baselineStage s).station = s.station ∧ (baselineStage s).settings = s.settings ∧
    (baselineStage s).clock = s.clock ∧ (baselineStage s).queue = s.queue ∧ (baselineStage s).judge = s.judge ∧
    (baselineStage s).chords = s.chords ∧ (baselineStage s).tally = s.tally ∧ (baselineStage s).reports = s.reports ∧
    (baselineStage s).line = s.line ∧ (baselineStage s).lamp = s.lamp ∧ (baselineStage s).freeCount = s.freeCount ∧
    (baselineStage s).pending = s.pending := by
  unfold baselineStage; (repeat' split) <;> simp

@[simp] theorem endStartup_frame (s : State) :
    (endStartup s).powered = s.powered ∧ (endStartup s).straps = s.straps ∧ (endStartup s).settings = s.settings ∧
    (endStartup s).sense = s.sense ∧ (endStartup s).judge = s.judge ∧ (endStartup s).tally = s.tally ∧
    (endStartup s).freeCount = s.freeCount ∧ (endStartup s).pending = s.pending := by
  unfold endStartup; (repeat' split) <;> simp

@[simp] theorem readZones_frame (raws : Quad (BitVec 12)) (s : State) :
    (readZones raws s).powered = s.powered ∧ (readZones raws s).straps = s.straps ∧
    (readZones raws s).station = s.station ∧ (readZones raws s).settings = s.settings ∧
    (readZones raws s).clock = s.clock ∧ (readZones raws s).queue = s.queue ∧ (readZones raws s).judge = s.judge ∧
    (readZones raws s).chords = s.chords ∧ (readZones raws s).tally = s.tally ∧
    (readZones raws s).reports = s.reports ∧ (readZones raws s).line = s.line ∧ (readZones raws s).lamp = s.lamp ∧
    (readZones raws s).freeCount = s.freeCount ∧ (readZones raws s).pending = s.pending := by
  simp [readZones]

@[simp] theorem countSample_frame (s : State) :
    (countSample s).powered = s.powered ∧ (countSample s).straps = s.straps ∧ (countSample s).station = s.station ∧
    (countSample s).settings = s.settings ∧ (countSample s).clock = s.clock ∧ (countSample s).queue = s.queue ∧
    (countSample s).judge = s.judge ∧ (countSample s).chords = s.chords ∧ (countSample s).tally = s.tally ∧
    (countSample s).reports = s.reports ∧ (countSample s).line = s.line ∧ (countSample s).lamp = s.lamp ∧
    (countSample s).freeCount = s.freeCount ∧ (countSample s).pending = s.pending := by
  simp [countSample]

@[simp] theorem sampleDetected_frame (raws : Quad (BitVec 12)) (s : State) :
    (sampleDetected raws s).powered = s.powered ∧ (sampleDetected raws s).straps = s.straps ∧
    (sampleDetected raws s).station = s.station ∧ (sampleDetected raws s).settings = s.settings ∧
    (sampleDetected raws s).clock = s.clock ∧ (sampleDetected raws s).judge = s.judge ∧
    (sampleDetected raws s).tally = s.tally ∧ (sampleDetected raws s).freeCount = s.freeCount ∧
    (sampleDetected raws s).pending = s.pending := by
  unfold sampleDetected; split <;> simp

@[simp] theorem takeSample_frame (raws : Quad (BitVec 12)) (s : State) :
    (takeSample raws s).powered = s.powered ∧ (takeSample raws s).straps = s.straps ∧
    (takeSample raws s).station = s.station ∧ (takeSample raws s).settings = s.settings ∧
    (takeSample raws s).clock = s.clock ∧ (takeSample raws s).judge = s.judge ∧ (takeSample raws s).tally = s.tally ∧
    (takeSample raws s).freeCount = s.freeCount ∧ (takeSample raws s).pending = s.pending := by
  simp only [takeSample]; split <;> simp

@[simp] theorem beforeSample_frame (s : State) :
    (beforeSample s).powered = s.powered ∧ (beforeSample s).straps = s.straps ∧
    (beforeSample s).settings = s.settings ∧ (beforeSample s).sense = s.sense ∧ (beforeSample s).judge = s.judge ∧
    (beforeSample s).tally = s.tally ∧ (beforeSample s).freeCount = s.freeCount ∧
    (beforeSample s).pending = s.pending := by
  unfold beforeSample; split <;> simp

/-- A sample that brings its event is the sample; any other leaves the station as it was. -/
theorem sampleBringing_eq (event : State → Bool) (raws : Quad (BitVec 12)) (s : State) :
    sampleBringing event raws s =
      if s.loaded = true ∧ event (beforeSample s) = true then sampleBringing (fun _ => true) raws s else s := by
  unfold sampleBringing
  by_cases l : s.loaded = true <;> by_cases e : event (beforeSample s) = true <;> simp [l, e]

/-! ### Machine/Store.lean -/

@[simp] theorem dropEvicted_frame (s : State) :
    (dropEvicted s).powered = s.powered ∧ (dropEvicted s).straps = s.straps ∧ (dropEvicted s).station = s.station ∧
    (dropEvicted s).settings = s.settings ∧ (dropEvicted s).sense = s.sense ∧ (dropEvicted s).clock = s.clock ∧
    (dropEvicted s).queue = s.queue ∧ (dropEvicted s).judge = s.judge ∧ (dropEvicted s).chords = s.chords ∧
    (dropEvicted s).tally = s.tally ∧ (dropEvicted s).line = s.line ∧ (dropEvicted s).lamp = s.lamp ∧
    (dropEvicted s).freeCount = s.freeCount ∧ (dropEvicted s).pending = s.pending := by
  unfold dropEvicted; (repeat' split) <;> simp

/-- Dropping an evicted item reads nothing but the frame in flight and the list (R97). -/
theorem dropEvicted_reports (s t : State) (line : s.line = t.line) (reports : s.reports = t.reports) :
    (dropEvicted s).reports = (dropEvicted t).reports := by
  unfold dropEvicted; rw [line, ← reports]; (repeat' split) <;> simp_all

/-- With no frame in flight there is no evicted item to drop (R97). -/
theorem dropEvicted_none (s : State) (h : s.line.inFlight = none) : dropEvicted s = s := by
  unfold dropEvicted; simp [h]

@[simp] theorem abandonStore_frame (s : State) :
    (abandonStore s).powered = s.powered ∧ (abandonStore s).straps = s.straps ∧
    (abandonStore s).station = s.station ∧ (abandonStore s).sense = s.sense ∧ (abandonStore s).clock = s.clock ∧
    (abandonStore s).queue = s.queue ∧ (abandonStore s).judge = s.judge ∧ (abandonStore s).chords = s.chords ∧
    (abandonStore s).tally = s.tally ∧ (abandonStore s).reports = s.reports ∧ (abandonStore s).line = s.line ∧
    (abandonStore s).lamp = s.lamp ∧ (abandonStore s).pending = s.pending := by
  unfold abandonStore; (repeat' split) <;> simp

@[simp] theorem completeStore_frame (s : State) :
    (completeStore s).powered = s.powered ∧ (completeStore s).straps = s.straps ∧
    (completeStore s).station = s.station ∧ (completeStore s).sense = s.sense ∧ (completeStore s).clock = s.clock ∧
    (completeStore s).queue = s.queue ∧ (completeStore s).judge = s.judge ∧ (completeStore s).chords = s.chords ∧
    (completeStore s).tally = s.tally ∧ (completeStore s).reports = s.reports ∧ (completeStore s).line = s.line ∧
    (completeStore s).lamp = s.lamp ∧ (completeStore s).freeCount = s.freeCount ∧
    (completeStore s).pending = s.pending := by
  unfold completeStore; (repeat' split) <;> simp

@[simp] theorem beginStore_frame (s : State) :
    (beginStore s).powered = s.powered ∧ (beginStore s).straps = s.straps ∧ (beginStore s).station = s.station ∧
    (beginStore s).sense = s.sense ∧ (beginStore s).clock = s.clock ∧ (beginStore s).queue = s.queue ∧
    (beginStore s).judge = s.judge ∧ (beginStore s).chords = s.chords ∧ (beginStore s).tally = s.tally ∧
    (beginStore s).reports = s.reports ∧ (beginStore s).line = s.line ∧ (beginStore s).lamp = s.lamp ∧
    (beginStore s).freeCount = s.freeCount ∧ (beginStore s).pending = s.pending := by
  simp [beginStore]

@[simp] theorem applyField_frame (id : Nat) (old new : Settings) (s : State) :
    (applyField id old new s).powered = s.powered ∧ (applyField id old new s).straps = s.straps ∧
    (applyField id old new s).station = s.station ∧ (applyField id old new s).settings = s.settings ∧
    (applyField id old new s).clock = s.clock ∧ (applyField id old new s).queue = s.queue ∧
    (applyField id old new s).judge = s.judge ∧ (applyField id old new s).chords = s.chords ∧
    (applyField id old new s).tally = s.tally ∧ (applyField id old new s).reports = s.reports ∧
    (applyField id old new s).line = s.line ∧ (applyField id old new s).freeCount = s.freeCount ∧
    (applyField id old new s).pending = s.pending := by
  unfold applyField; split <;> simp

@[simp] theorem takeWrite_frame (id : Nat) (v : BitVec 16) (s : State) :
    (takeWrite id v s).powered = s.powered ∧ (takeWrite id v s).straps = s.straps ∧
    (takeWrite id v s).station = s.station ∧ (takeWrite id v s).clock = s.clock ∧
    (takeWrite id v s).queue = s.queue ∧ (takeWrite id v s).judge = s.judge ∧ (takeWrite id v s).chords = s.chords ∧
    (takeWrite id v s).tally = s.tally ∧ (takeWrite id v s).reports = s.reports ∧ (takeWrite id v s).line = s.line ∧
    (takeWrite id v s).freeCount = s.freeCount ∧ (takeWrite id v s).pending = s.pending := by
  simp [takeWrite]

@[simp] theorem loadSettings_frame (s : State) :
    (loadSettings s).powered = s.powered ∧ (loadSettings s).straps = s.straps ∧
    (loadSettings s).station = s.station ∧ (loadSettings s).clock = s.clock ∧ (loadSettings s).queue = s.queue ∧
    (loadSettings s).judge = s.judge ∧ (loadSettings s).chords = s.chords ∧ (loadSettings s).tally = s.tally ∧
    (loadSettings s).reports = s.reports ∧ (loadSettings s).line = s.line ∧
    (loadSettings s).freeCount = s.freeCount ∧ (loadSettings s).pending = s.pending := by
  simp [loadSettings]

@[simp] theorem resetStation_frame (p : Straps) (s : State) :
    (resetStation p s).pending = s.pending := by
  simp [resetStation]

@[simp] theorem losePower_frame (s : State) :
    (losePower s).straps = s.straps ∧ (losePower s).station = s.station ∧ (losePower s).sense = s.sense ∧
    (losePower s).clock = s.clock ∧ (losePower s).judge = s.judge ∧ (losePower s).chords = s.chords ∧
    (losePower s).tally = s.tally ∧ (losePower s).reports = (dropEvicted s).reports ∧
    (losePower s).pending = s.pending := by
  simp [losePower, dropEvicted_reports (abandonStore s) s]

/-! ### Machine/Line.lean -/

@[simp] theorem contend_frame (src : Source) (rivals : List Byte) (s : State) :
    (contend src rivals s).powered = s.powered ∧ (contend src rivals s).straps = s.straps ∧
    (contend src rivals s).station = s.station ∧ (contend src rivals s).settings = s.settings ∧
    (contend src rivals s).sense = s.sense ∧ (contend src rivals s).clock = s.clock ∧
    (contend src rivals s).queue = s.queue ∧ (contend src rivals s).judge = s.judge ∧
    (contend src rivals s).chords = s.chords ∧ (contend src rivals s).tally = s.tally ∧
    (contend src rivals s).reports = s.reports ∧ (contend src rivals s).lamp = s.lamp ∧
    (contend src rivals s).freeCount = s.freeCount ∧ (contend src rivals s).pending = s.pending := by
  simp only [contend]; (repeat' split) <;> simp

@[simp] theorem beginAssembly_frame (s : State) :
    (beginAssembly s).powered = s.powered ∧ (beginAssembly s).straps = s.straps ∧
    (beginAssembly s).station = s.station ∧ (beginAssembly s).settings = s.settings ∧
    (beginAssembly s).sense = s.sense ∧ (beginAssembly s).clock = s.clock ∧ (beginAssembly s).queue = s.queue ∧
    (beginAssembly s).judge = s.judge ∧ (beginAssembly s).chords = s.chords ∧ (beginAssembly s).tally = s.tally ∧
    (beginAssembly s).reports = s.reports ∧ (beginAssembly s).lamp = s.lamp ∧
    (beginAssembly s).freeCount = s.freeCount ∧ (beginAssembly s).pending = s.pending := by
  simp [beginAssembly]

@[simp] theorem ownFrameEnded_frame (s : State) :
    (ownFrameEnded s).powered = s.powered ∧ (ownFrameEnded s).straps = s.straps ∧
    (ownFrameEnded s).station = s.station ∧ (ownFrameEnded s).settings = s.settings ∧
    (ownFrameEnded s).sense = s.sense ∧ (ownFrameEnded s).clock = s.clock ∧ (ownFrameEnded s).queue = s.queue ∧
    (ownFrameEnded s).judge = s.judge ∧ (ownFrameEnded s).chords = s.chords ∧ (ownFrameEnded s).tally = s.tally ∧
    (ownFrameEnded s).reports = s.reports ∧ (ownFrameEnded s).lamp = s.lamp ∧
    (ownFrameEnded s).freeCount = s.freeCount ∧ (ownFrameEnded s).pending = s.pending := by
  simp [ownFrameEnded]

@[simp] theorem tellAcknowledged_frame (acked : Bool) (s : State) :
    (tellAcknowledged acked s).powered = s.powered ∧ (tellAcknowledged acked s).straps = s.straps ∧
    (tellAcknowledged acked s).settings = s.settings ∧ (tellAcknowledged acked s).sense = s.sense ∧
    (tellAcknowledged acked s).clock = s.clock ∧ (tellAcknowledged acked s).queue = s.queue ∧
    (tellAcknowledged acked s).judge = s.judge ∧ (tellAcknowledged acked s).chords = s.chords ∧
    (tellAcknowledged acked s).tally = s.tally ∧ (tellAcknowledged acked s).reports = s.reports ∧
    (tellAcknowledged acked s).line = s.line ∧ (tellAcknowledged acked s).freeCount = s.freeCount ∧
    (tellAcknowledged acked s).pending = s.pending := by
  unfold tellAcknowledged; (repeat' split) <;> simp

@[simp] theorem abortFrame_frame (high : Nat) (s : State) :
    (abortFrame high s).powered = s.powered ∧ (abortFrame high s).straps = s.straps ∧
    (abortFrame high s).station = s.station ∧ (abortFrame high s).settings = s.settings ∧
    (abortFrame high s).sense = s.sense ∧ (abortFrame high s).clock = s.clock ∧ (abortFrame high s).judge = s.judge ∧
    (abortFrame high s).chords = s.chords ∧ (abortFrame high s).tally = s.tally ∧ (abortFrame high s).lamp = s.lamp ∧
    (abortFrame high s).freeCount = s.freeCount ∧ (abortFrame high s).pending = s.pending := by
  simp [abortFrame]

@[simp] theorem edgeInBreak_frame (s : State) :
    (edgeInBreak s).powered = s.powered ∧ (edgeInBreak s).straps = s.straps ∧ (edgeInBreak s).station = s.station ∧
    (edgeInBreak s).settings = s.settings ∧ (edgeInBreak s).sense = s.sense ∧ (edgeInBreak s).clock = s.clock ∧
    (edgeInBreak s).queue = s.queue ∧ (edgeInBreak s).judge = s.judge ∧ (edgeInBreak s).chords = s.chords ∧
    (edgeInBreak s).tally = s.tally ∧ (edgeInBreak s).reports = s.reports ∧ (edgeInBreak s).lamp = s.lamp ∧
    (edgeInBreak s).freeCount = s.freeCount ∧ (edgeInBreak s).pending = s.pending := by
  simp [edgeInBreak]

@[simp] theorem followStart_frame (s : State) :
    (followStart s).powered = s.powered ∧ (followStart s).straps = s.straps ∧ (followStart s).station = s.station ∧
    (followStart s).settings = s.settings ∧ (followStart s).sense = s.sense ∧ (followStart s).clock = s.clock ∧
    (followStart s).queue = s.queue ∧ (followStart s).judge = s.judge ∧ (followStart s).chords = s.chords ∧
    (followStart s).tally = s.tally ∧ (followStart s).reports = s.reports ∧ (followStart s).lamp = s.lamp ∧
    (followStart s).freeCount = s.freeCount ∧ (followStart s).pending = s.pending := by
  unfold followStart; (repeat' split) <;> simp

/-! ### Machine/Song.lean -/

@[simp] theorem takeStart_frame (f : StartFrame) (s : State) :
    (takeStart f s).powered = s.powered ∧ (takeStart f s).straps = s.straps ∧ (takeStart f s).settings = s.settings ∧
    (takeStart f s).chords = s.chords ∧ (takeStart f s).reports = s.reports ∧ (takeStart f s).line = s.line ∧
    (takeStart f s).lamp = s.lamp ∧ (takeStart f s).freeCount = s.freeCount ∧
    (takeStart f s).pending = s.pending := by
  simp [takeStart]

@[simp] theorem takeStop_frame (s : State) :
    (takeStop s).powered = s.powered ∧ (takeStop s).straps = s.straps ∧ (takeStop s).settings = s.settings ∧
    (takeStop s).sense = s.sense ∧ (takeStop s).judge = s.judge ∧ (takeStop s).tally = s.tally ∧
    (takeStop s).line = s.line ∧ (takeStop s).freeCount = s.freeCount ∧ (takeStop s).pending = s.pending := by
  simp [takeStop]

/-! ### Machine/Receive.lean -/

@[simp] theorem decideFrame_frame (ahead : Bool) (f : Frame) (s : State) :
    (decideFrame ahead f s).powered = s.powered ∧ (decideFrame ahead f s).straps = s.straps ∧
    (decideFrame ahead f s).station = s.station ∧ (decideFrame ahead f s).settings = s.settings ∧
    (decideFrame ahead f s).sense = s.sense ∧ (decideFrame ahead f s).clock = s.clock ∧
    (decideFrame ahead f s).judge = s.judge ∧ (decideFrame ahead f s).chords = s.chords ∧
    (decideFrame ahead f s).tally = s.tally ∧ (decideFrame ahead f s).reports = s.reports ∧
    (decideFrame ahead f s).lamp = s.lamp ∧ (decideFrame ahead f s).freeCount = s.freeCount ∧
    (decideFrame ahead f s).pending = s.pending := by
  simp [decideFrame]

@[simp] theorem heardEnd_frame (s : State) :
    (heardEnd s).powered = s.powered ∧ (heardEnd s).straps = s.straps ∧ (heardEnd s).station = s.station ∧
    (heardEnd s).settings = s.settings ∧ (heardEnd s).sense = s.sense ∧ (heardEnd s).clock = s.clock ∧
    (heardEnd s).queue = s.queue ∧ (heardEnd s).judge = s.judge ∧ (heardEnd s).chords = s.chords ∧
    (heardEnd s).tally = s.tally ∧ (heardEnd s).reports = s.reports ∧ (heardEnd s).lamp = s.lamp ∧
    (heardEnd s).freeCount = s.freeCount ∧ (heardEnd s).pending = s.pending := by
  simp [heardEnd]

@[simp] theorem heardUnread_frame (s : State) :
    (heardUnread s).powered = s.powered ∧ (heardUnread s).straps = s.straps ∧ (heardUnread s).station = s.station ∧
    (heardUnread s).settings = s.settings ∧ (heardUnread s).sense = s.sense ∧ (heardUnread s).clock = s.clock ∧
    (heardUnread s).queue = s.queue ∧ (heardUnread s).judge = s.judge ∧ (heardUnread s).chords = s.chords ∧
    (heardUnread s).tally = s.tally ∧ (heardUnread s).reports = s.reports ∧ (heardUnread s).lamp = s.lamp ∧
    (heardUnread s).freeCount = s.freeCount ∧ (heardUnread s).pending = s.pending := by
  unfold heardUnread; (repeat' split) <;> simp

@[simp] theorem reachAck_frame (ahead : Bool) (f : Frame) (s : State) :
    (reachAck ahead f s).powered = s.powered ∧ (reachAck ahead f s).straps = s.straps ∧
    (reachAck ahead f s).settings = s.settings ∧ (reachAck ahead f s).sense = s.sense ∧
    (reachAck ahead f s).judge = s.judge ∧ (reachAck ahead f s).tally = s.tally ∧
    (reachAck ahead f s).freeCount = s.freeCount ∧ (reachAck ahead f s).pending = s.pending := by
  unfold reachAck; (repeat' split) <;> simp

@[simp] theorem noteEffect_frame (d : Decision) (s : State) :
    (noteEffect d s).powered = s.powered ∧ (noteEffect d s).straps = s.straps ∧
    (noteEffect d s).station = s.station ∧ (noteEffect d s).settings = s.settings ∧
    (noteEffect d s).sense = s.sense ∧ (noteEffect d s).clock = s.clock ∧ (noteEffect d s).judge = s.judge ∧
    (noteEffect d s).chords = s.chords ∧ (noteEffect d s).tally = s.tally ∧ (noteEffect d s).reports = s.reports ∧
    (noteEffect d s).line = s.line ∧ (noteEffect d s).lamp = s.lamp ∧ (noteEffect d s).freeCount = s.freeCount ∧
    (noteEffect d s).pending = s.pending := by
  unfold noteEffect; (repeat' split) <;> simp

@[simp] theorem closureEffect_frame (c : ClosureFrame) (s : State) :
    (closureEffect c s).powered = s.powered ∧ (closureEffect c s).straps = s.straps ∧
    (closureEffect c s).settings = s.settings ∧ (closureEffect c s).sense = s.sense ∧
    (closureEffect c s).clock = s.clock ∧ (closureEffect c s).judge = s.judge ∧ (closureEffect c s).line = s.line ∧
    (closureEffect c s).freeCount = s.freeCount ∧ (closureEffect c s).pending = s.pending := by
  simp [closureEffect]

@[simp] theorem takeQuery_frame (f : QueryFrame) (s : State) :
    (takeQuery f s).powered = s.powered ∧ (takeQuery f s).straps = s.straps ∧ (takeQuery f s).station = s.station ∧
    (takeQuery f s).settings = s.settings ∧ (takeQuery f s).sense = s.sense ∧ (takeQuery f s).clock = s.clock ∧
    (takeQuery f s).queue = s.queue ∧ (takeQuery f s).judge = s.judge ∧ (takeQuery f s).chords = s.chords ∧
    (takeQuery f s).tally = s.tally ∧ (takeQuery f s).reports = s.reports ∧ (takeQuery f s).lamp = s.lamp ∧
    (takeQuery f s).freeCount = s.freeCount ∧ (takeQuery f s).pending = s.pending := by
  simp [takeQuery]

/-! ### Machine/Time.lean -/

@[simp] theorem cellStore_frame (s : State) :
    (cellStore s).powered = s.powered ∧ (cellStore s).straps = s.straps ∧ (cellStore s).station = s.station ∧
    (cellStore s).sense = s.sense ∧ (cellStore s).clock = s.clock ∧ (cellStore s).queue = s.queue ∧
    (cellStore s).judge = s.judge ∧ (cellStore s).chords = s.chords ∧ (cellStore s).tally = s.tally ∧
    (cellStore s).reports = s.reports ∧ (cellStore s).line = s.line ∧ (cellStore s).lamp = s.lamp ∧
    (cellStore s).freeCount = s.freeCount ∧ (cellStore s).pending = s.pending := by
  unfold cellStore; (repeat' split) <;> simp

@[simp] theorem cellSilence_frame (s : State) :
    (cellSilence s).powered = s.powered ∧ (cellSilence s).straps = s.straps ∧ (cellSilence s).settings = s.settings ∧
    (cellSilence s).sense = s.sense ∧ (cellSilence s).clock = s.clock ∧ (cellSilence s).queue = s.queue ∧
    (cellSilence s).judge = s.judge ∧ (cellSilence s).chords = s.chords ∧ (cellSilence s).tally = s.tally ∧
    (cellSilence s).reports = s.reports ∧ (cellSilence s).line = s.line ∧ (cellSilence s).freeCount = s.freeCount ∧
    (cellSilence s).pending = s.pending := by
  unfold cellSilence; (repeat' split) <;> simp

@[simp] theorem cellFlash_frame (s : State) :
    (cellFlash s).powered = s.powered ∧ (cellFlash s).straps = s.straps ∧ (cellFlash s).station = s.station ∧
    (cellFlash s).settings = s.settings ∧ (cellFlash s).sense = s.sense ∧ (cellFlash s).clock = s.clock ∧
    (cellFlash s).queue = s.queue ∧ (cellFlash s).judge = s.judge ∧ (cellFlash s).chords = s.chords ∧
    (cellFlash s).tally = s.tally ∧ (cellFlash s).reports = s.reports ∧ (cellFlash s).line = s.line ∧
    (cellFlash s).freeCount = s.freeCount ∧ (cellFlash s).pending = s.pending := by
  unfold cellFlash; (repeat' split) <;> simp

@[simp] theorem cellPattern_frame (s : State) :
    (cellPattern s).powered = s.powered ∧ (cellPattern s).straps = s.straps ∧ (cellPattern s).station = s.station ∧
    (cellPattern s).settings = s.settings ∧ (cellPattern s).sense = s.sense ∧ (cellPattern s).clock = s.clock ∧
    (cellPattern s).queue = s.queue ∧ (cellPattern s).judge = s.judge ∧ (cellPattern s).chords = s.chords ∧
    (cellPattern s).tally = s.tally ∧ (cellPattern s).reports = s.reports ∧ (cellPattern s).line = s.line ∧
    (cellPattern s).freeCount = s.freeCount ∧ (cellPattern s).pending = s.pending := by
  unfold cellPattern; (repeat' split) <;> simp

@[simp] theorem cellPeriods_frame (s : State) :
    (cellPeriods s).powered = s.powered ∧ (cellPeriods s).straps = s.straps ∧ (cellPeriods s).station = s.station ∧
    (cellPeriods s).settings = s.settings ∧ (cellPeriods s).clock = s.clock ∧ (cellPeriods s).queue = s.queue ∧
    (cellPeriods s).judge = s.judge ∧ (cellPeriods s).chords = s.chords ∧ (cellPeriods s).tally = s.tally ∧
    (cellPeriods s).reports = s.reports ∧ (cellPeriods s).line = s.line ∧ (cellPeriods s).freeCount = s.freeCount ∧
    (cellPeriods s).pending = s.pending := by
  simp [cellPeriods]

@[simp] theorem followedCell_frame (s : State) :
    (followedCell s).powered = s.powered ∧ (followedCell s).straps = s.straps ∧
    (followedCell s).station = s.station ∧ (followedCell s).settings = s.settings ∧
    (followedCell s).sense = s.sense ∧ (followedCell s).clock = s.clock ∧ (followedCell s).judge = s.judge ∧
    (followedCell s).chords = s.chords ∧ (followedCell s).tally = s.tally ∧ (followedCell s).lamp = s.lamp ∧
    (followedCell s).freeCount = s.freeCount ∧ (followedCell s).pending = s.pending := by
  unfold followedCell; dsimp only; split <;> simp

/-- A high cell in a frame another station sends leaves the report list, which holds no evicted item then (R97). -/
theorem followedCell_reports (s : State) (h : s.line.inFlight = none) : (followedCell s).reports = s.reports := by
  unfold followedCell; dsimp only
  split
  · simp [abortFrame, dropEvicted_none s h]
  · simp

@[simp] theorem cellLine_frame (s : State) :
    (cellLine s).powered = s.powered ∧ (cellLine s).straps = s.straps ∧ (cellLine s).station = s.station ∧
    (cellLine s).settings = s.settings ∧ (cellLine s).sense = s.sense ∧ (cellLine s).clock = s.clock ∧
    (cellLine s).judge = s.judge ∧ (cellLine s).chords = s.chords ∧ (cellLine s).tally = s.tally ∧
    (cellLine s).reports = s.reports ∧ (cellLine s).lamp = s.lamp ∧ (cellLine s).freeCount = s.freeCount ∧
    (cellLine s).pending = s.pending := by
  unfold cellLine
  split
  · split
    · rename_i h
      simp only [Bool.and_eq_true, Option.isNone_iff_eq_none] at h
      simp [followedCell_reports s h.2]
    · split <;> simp
  · simp

@[simp] theorem cellClock_frame (s : State) :
    (cellClock s).powered = s.powered ∧ (cellClock s).straps = s.straps ∧ (cellClock s).settings = s.settings ∧
    (cellClock s).sense = s.sense ∧ (cellClock s).judge = s.judge ∧ (cellClock s).tally = s.tally ∧
    (cellClock s).freeCount = s.freeCount ∧ (cellClock s).pending = s.pending := by
  unfold cellClock; (repeat' split) <;> simp

@[simp] theorem cellStartup_frame (s : State) :
    (cellStartup s).powered = s.powered ∧ (cellStartup s).straps = s.straps ∧ (cellStartup s).settings = s.settings ∧
    (cellStartup s).sense = s.sense ∧ (cellStartup s).judge = s.judge ∧ (cellStartup s).tally = s.tally ∧
    (cellStartup s).freeCount = s.freeCount ∧ (cellStartup s).pending = s.pending := by
  unfold cellStartup; (repeat' split) <;> simp

end Sys2Proof.Machine
end

