-- ==== Sys2Proof/Laws/PerInstr.lean ====
section
/-! SUPPORT. Lemmas made per command. The family `CarriesWellFormedFrame`: a well-formed receiving command carries a frame
that passes the tests of R139, and a command that carries no frame claims nothing. -/

namespace Sys2Proof.Laws

/-- The frame a well-formed command carries, if it carries one, is well formed. -/
def CarriesWellFormedFrame.Statement (i : Instr) : Prop :=
  i.wellFormed = true → ∀ f, i.frame = some f → f.wellFormed = true

theorem CarriesWellFormedFrame.reset (straps : Straps) : CarriesWellFormedFrame.Statement (.reset straps) :=
  fun _ _ h => nomatch h

theorem CarriesWellFormedFrame.settingsLoad : CarriesWellFormedFrame.Statement .settingsLoad := fun _ _ h => nomatch h

theorem CarriesWellFormedFrame.sample (raws : Quad (BitVec 12)) : CarriesWellFormedFrame.Statement (.sample raws) :=
  fun _ _ h => nomatch h

theorem CarriesWellFormedFrame.zoneFault (zone : Fin 4) : CarriesWellFormedFrame.Statement (.zoneFault zone) :=
  fun _ _ h => nomatch h

theorem CarriesWellFormedFrame.zoneRecovery (zone : Fin 4) : CarriesWellFormedFrame.Statement (.zoneRecovery zone) :=
  fun _ _ h => nomatch h

theorem CarriesWellFormedFrame.baselineTracking : CarriesWellFormedFrame.Statement .baselineTracking :=
  fun _ _ h => nomatch h

theorem CarriesWellFormedFrame.press : CarriesWellFormedFrame.Statement .press := fun _ _ h => nomatch h

theorem CarriesWellFormedFrame.release : CarriesWellFormedFrame.Statement .release := fun _ _ h => nomatch h

theorem CarriesWellFormedFrame.startupEnd : CarriesWellFormedFrame.Statement .startupEnd := fun _ _ h => nomatch h

theorem CarriesWellFormedFrame.tickAdvance : CarriesWellFormedFrame.Statement .tickAdvance := fun _ _ h => nomatch h

theorem CarriesWellFormedFrame.lapse (due : Nat) : CarriesWellFormedFrame.Statement (.lapse due) :=
  fun _ _ h => nomatch h

theorem CarriesWellFormedFrame.holdEnd (due : Nat) : CarriesWellFormedFrame.Statement (.holdEnd due) :=
  fun _ _ h => nomatch h

theorem CarriesWellFormedFrame.graceExpiry (due : Nat) : CarriesWellFormedFrame.Statement (.graceExpiry due) :=
  fun _ _ h => nomatch h

theorem CarriesWellFormedFrame.forcedClosePoint (key : Nat) : CarriesWellFormedFrame.Statement (.forcedClosePoint key) :=
  fun _ _ h => nomatch h

theorem CarriesWellFormedFrame.markPoint : CarriesWellFormedFrame.Statement .markPoint := fun _ _ h => nomatch h

theorem CarriesWellFormedFrame.saturation : CarriesWellFormedFrame.Statement .saturation := fun _ _ h => nomatch h

theorem CarriesWellFormedFrame.silenceTimeout : CarriesWellFormedFrame.Statement .silenceTimeout :=
  fun _ _ h => nomatch h

theorem CarriesWellFormedFrame.flashStep : CarriesWellFormedFrame.Statement .flashStep := fun _ _ h => nomatch h

theorem CarriesWellFormedFrame.faultPatternTimer : CarriesWellFormedFrame.Statement .faultPatternTimer :=
  fun _ _ h => nomatch h

theorem CarriesWellFormedFrame.pwmPeriod (sensed : Quad ChannelSense) : CarriesWellFormedFrame.Statement (.pwmPeriod sensed) :=
  fun _ _ h => nomatch h

theorem CarriesWellFormedFrame.openFlag (channel : Fin 4) : CarriesWellFormedFrame.Statement (.openFlag channel) :=
  fun _ _ h => nomatch h

theorem CarriesWellFormedFrame.storeComplete : CarriesWellFormedFrame.Statement .storeComplete :=
  fun _ _ h => nomatch h

theorem CarriesWellFormedFrame.idleGap : CarriesWellFormedFrame.Statement .idleGap := fun _ _ h => nomatch h

theorem CarriesWellFormedFrame.frameStart (instant : StartInstant) : CarriesWellFormedFrame.Statement (.frameStart instant) :=
  fun _ _ h => nomatch h

theorem CarriesWellFormedFrame.payloadLatch : CarriesWellFormedFrame.Statement .payloadLatch := fun _ _ h => nomatch h

theorem CarriesWellFormedFrame.markSent (ending : OwnEnd) : CarriesWellFormedFrame.Statement (.markSent ending) :=
  fun _ _ h => nomatch h

theorem CarriesWellFormedFrame.judgeSent (ending : OwnEnd) : CarriesWellFormedFrame.Statement (.judgeSent ending) :=
  fun _ _ h => nomatch h

theorem CarriesWellFormedFrame.statusSent (ending : OwnEnd) : CarriesWellFormedFrame.Statement (.statusSent ending) :=
  fun _ _ h => nomatch h

theorem CarriesWellFormedFrame.mark (f : MarkFrame) (p : FramePoint) : CarriesWellFormedFrame.Statement (.mark f p) := by
  rintro h f ⟨⟩
  exact h

theorem CarriesWellFormedFrame.start (f : StartFrame) (p : FramePoint) : CarriesWellFormedFrame.Statement (.start f p) := by
  rintro h f ⟨⟩
  exact h

theorem CarriesWellFormedFrame.stop (p : FramePoint) : CarriesWellFormedFrame.Statement (.stop p) := by
  rintro h f ⟨⟩
  exact h

theorem CarriesWellFormedFrame.note (f : NoteFrame) (p : FramePoint) : CarriesWellFormedFrame.Statement (.note f p) := by
  rintro h f ⟨⟩
  exact h

theorem CarriesWellFormedFrame.memberReport (r : HeadReport) (p : FramePoint) : CarriesWellFormedFrame.Statement (.memberReport r p) := by
  rintro h f ⟨⟩
  exact h

theorem CarriesWellFormedFrame.orphan (r : HeadReport) (p : FramePoint) : CarriesWellFormedFrame.Statement (.orphan r p) := by
  rintro h f ⟨⟩
  exact h

theorem CarriesWellFormedFrame.heardClosure (c : ClosureFrame) (p : FramePoint) : CarriesWellFormedFrame.Statement (.heardClosure c p) := by
  rintro h f ⟨⟩
  exact h

theorem CarriesWellFormedFrame.tailFrame (f : TailFrame) (p : FramePoint) : CarriesWellFormedFrame.Statement (.tailFrame f p) := by
  rintro h f ⟨⟩
  exact h

theorem CarriesWellFormedFrame.lamp (f : LampFrame) (p : FramePoint) : CarriesWellFormedFrame.Statement (.lamp f p) := by
  rintro h f ⟨⟩
  exact h

theorem CarriesWellFormedFrame.clearLatch (f : LampFrame) (p : FramePoint) : CarriesWellFormedFrame.Statement (.clearLatch f p) := by
  rintro h f ⟨⟩
  exact h

theorem CarriesWellFormedFrame.write (f : WriteFrame) (p : FramePoint) : CarriesWellFormedFrame.Statement (.write f p) := by
  rintro h f ⟨⟩
  exact h

theorem CarriesWellFormedFrame.store (target : Byte) (p : FramePoint) : CarriesWellFormedFrame.Statement (.store target p) := by
  rintro h f ⟨⟩
  exact h

theorem CarriesWellFormedFrame.restart (target : Byte) (straps : Straps) (p : FramePoint) : CarriesWellFormedFrame.Statement (.restart target straps p) := by
  rintro h f ⟨⟩
  exact h

theorem CarriesWellFormedFrame.query (f : QueryFrame) (p : FramePoint) : CarriesWellFormedFrame.Statement (.query f p) := by
  rintro h f ⟨⟩
  exact h

theorem CarriesWellFormedFrame.statusReceived (f : StatusFrame) (p : FramePoint) : CarriesWellFormedFrame.Statement (.statusReceived f p) := by
  rintro h f ⟨⟩
  exact h

theorem CarriesWellFormedFrame.runt : CarriesWellFormedFrame.Statement .runt := fun _ _ h => nomatch h

theorem CarriesWellFormedFrame.longLow : CarriesWellFormedFrame.Statement .longLow := fun _ _ h => nomatch h

theorem CarriesWellFormedFrame.frameTimeout : CarriesWellFormedFrame.Statement .frameTimeout := fun _ _ h => nomatch h

theorem CarriesWellFormedFrame.lineBreak : CarriesWellFormedFrame.Statement .lineBreak := fun _ _ h => nomatch h

theorem CarriesWellFormedFrame.frameDiscarded (w : WireFrame) : CarriesWellFormedFrame.Statement (.frameDiscarded w) :=
  fun _ _ h => nomatch h

theorem CarriesWellFormedFrame.lineBreakFallingEdge : CarriesWellFormedFrame.Statement .lineBreakFallingEdge :=
  fun _ _ h => nomatch h

theorem CarriesWellFormedFrame.powerLoss : CarriesWellFormedFrame.Statement .powerLoss := fun _ _ h => nomatch h

end Sys2Proof.Laws
end

