-- ==== Sys2Proof/Laws/Receive.lean ====
section
/-! SUPPORT. What receiving a whole frame comes to, and what Station Control's being told of one comes to. -/

namespace Sys2Proof.Machine

/-- The decision taken on a frame at its acknowledge cell. -/
def decisionOf (ahead : Bool) (f : Frame) (s : State) : Decision :=
  { frame := f, accepted := accepts ahead f s, refusal := refusalOf ahead f s }

/-- The station a frame's effects are taken on at its end-of-frame: the line released, the decision's insertion held. -/
def atEndOfFrame (f : Frame) (s : State) : State :=
  (s.setQueue { s.queue with pendingInsertion := insertionOf false f s }).setLine s.lineAfterHeard

@[simp] theorem atEndOfFrame_frame (f : Frame) (s : State) :
    (atEndOfFrame f s).powered = s.powered ∧ (atEndOfFrame f s).straps = s.straps ∧
    (atEndOfFrame f s).station = s.station ∧ (atEndOfFrame f s).settings = s.settings ∧
    (atEndOfFrame f s).sense = s.sense ∧ (atEndOfFrame f s).clock = s.clock ∧ (atEndOfFrame f s).judge = s.judge ∧
    (atEndOfFrame f s).chords = s.chords ∧ (atEndOfFrame f s).tally = s.tally ∧
    (atEndOfFrame f s).reports = s.reports ∧ (atEndOfFrame f s).lamp = s.lamp ∧
    (atEndOfFrame f s).freeCount = s.freeCount ∧ (atEndOfFrame f s).pending = s.pending ∧
    (atEndOfFrame f s).line = s.lineAfterHeard ∧
    (atEndOfFrame f s).queue = { s.queue with pendingInsertion := insertionOf false f s } := by
  simp [atEndOfFrame]

/-- A frame heard, taken whole: its effect on the station at its end-of-frame, then Station Control told. -/
theorem receive_whole (f : Frame) (effect : Decision → State → State) (s : State) (h : s.hears f = true) :
    receive f effect .whole s = heardFrame (effect (decisionOf false f s) (atEndOfFrame f s)) := by
  simp only [State.hears, Bool.and_eq_true, bne_iff_ne, ne_eq] at h
  obtain ⟨⟨⟨⟨hp, he⟩, hm⟩, hw⟩, ha⟩ := h
  have hf : s.followsLine = true := by
    cases hs : s.station.state <;> simp_all [State.followsLine, StationState.examines]
  simp [receive, reachAck, he, hf, hm, hw, ha, reachEnd, decideFrame, decisionOf, atEndOfFrame, heardEnd,
    LineController.released, State.lineAfterHeard, State.setLine, State.setQueue]

/-- Station Control told of a frame heard, as the blocks it writes. -/
theorem heardFrame_eq (s : State) :
    heardFrame s = (s.setStation s.stationAfterHeard).setLamp s.lampAfterHeard := by
  unfold heardFrame State.stationAfterHeard State.lampAfterHeard
  split <;> simp_all [setState, setPattern, State.setStation, State.setLamp]

/-- A frame heard with no effect on any block. -/
theorem heardFrame_atEndOfFrame (f : Frame) (s : State) (h : insertionOf false f s = none) :
    heardFrame (atEndOfFrame f s) = s.afterHeard := by
  rw [heardFrame_eq]
  simp [atEndOfFrame, h, State.afterHeard, State.setStation, State.setLamp, State.setQueue, State.setLine,
    State.stationAfterHeard, State.lampAfterHeard]

end Sys2Proof.Machine
end

