-- ==== Sys2Proof/Laws/Results.lean ====
section
/-! SUPPORT. What some shared operations come to, said once: finding an entry, hearing a frame, telling a chord, a copy
abandoned or loaded, and the check of a frame. -/

namespace Sys2Proof.Machine

/-- Two states with equal blocks are equal. -/
theorem State.blocks_ext {s t : State} (powered : s.powered = t.powered) (straps : s.straps = t.straps)
    (station : s.station = t.station) (settings : s.settings = t.settings) (sense : s.sense = t.sense)
    (clock : s.clock = t.clock) (queue : s.queue = t.queue) (judge : s.judge = t.judge) (chords : s.chords = t.chords)
    (tally : s.tally = t.tally) (reports : s.reports = t.reports) (line : s.line = t.line) (lamp : s.lamp = t.lamp)
    (freeCount : s.freeCount = t.freeCount) (pending : s.pending = t.pending) : s = t := by
  cases s; cases t; simp_all

/-- The first member that passes, given with those before it that do not. -/
theorem find_first {α : Type} (p : α → Bool) (before after : List α) (x : α) (none_before : ∀ y ∈ before, p y = false)
    (hx : p x = true) : (before ++ x :: after).find? p = some x := by
  induction before with
  | nil => simp [hx]
  | cons y ys ih =>
    rw [List.cons_append, List.find?_cons_of_neg (by simp [none_before y])]
    exact ih fun z hz => none_before z (by simp [hz])

/-- A station that hears a frame is powered, examines frames, may follow, and the frame is well formed and not its own. -/
theorem State.hears_iff (s : State) (f : Frame) :
    s.hears f = true ↔ s.powered = true ∧ s.station.state.examines = true ∧ s.line.mayFollow = true ∧ f.wellFormed = true ∧
      f.sender ≠ some s.headerAddress := by
  simp only [State.hears, Bool.and_eq_true, bne_iff_ne, and_assoc]

/-- A sender is of the station's own player in doubles, or when its pad is the station's (R95, R103). -/
theorem same_player_iff (s : State) (a : Nat) :
    (playerOf s.tally.doubles a == s.player) = true ↔
      (s.tally.doubles = true ∨ (a < 16 ↔ s.straps.pad = false)) := by
  simp only [State.player, playerOf, State.address, floorAddress, padNumber]
  have := s.straps.panel.isLt
  rcases s.tally.doubles with _ | _
  · by_cases hp : s.straps.pad = true <;> by_cases h : a < 16 <;> simp [h, hp] <;> omega
  · simp

/-- Telling the Chord Table a head grade while it need not evict writes the records of `State.chordsTold` (R77). -/
theorem tellChord_room (e : NoteEntry) (g : Grade) (s : State) (room : s.hasRoomFor e = true) :
    tellChord e g s = s.setChords (s.chordsTold e g) := by
  unfold tellChord State.chordsTold
  by_cases alone : e.partners = [] ∨ e.chordClosed = true
  · have h : (e.partners.isEmpty || e.chordClosed) = true := by simpa using alone
    simp [h, alone, State.setChords]
  · have h : (e.partners.isEmpty || e.chordClosed) = false := by simpa using alone
    simp only [h, alone, if_false]
    by_cases held : (findRecord e.due s).isSome = true
    · have any : (s.chords.any fun r => r.key == e.due) = true := by
        rw [findRecord, List.find?_isSome] at held
        simpa using held
      simp [held, any, updateRecord]
    · have any : (s.chords.any fun r => r.key == e.due) = false := by
        rw [findRecord, List.find?_isSome] at held
        simpa using held
      have full : ¬8 ≤ s.chords.length := by
        simp only [State.hasRoomFor, Bool.or_assoc, any, Bool.or_false, h, decide_eq_true_eq] at room
        omega
      simp [held, any, addRecord, makeRoom, chordCapacity, full, openRecord]

/-- The copy an abandoned STORE leaves does not hold, whatever its free values are (R128). -/
theorem tornCopy_not_holds (n : Nat) : (tornCopy n).holds = false := by
  simp only [tornCopy, NvCopy.holds]
  split
  · simp only [beq_eq_false_iff_ne, ne_eq]
    generalize copyCrc _ = x
    revert x
    decide
  · rename_i h
    simpa using h

/-- The settings a copy gives, each field clamped to its range (R125, R126). -/
theorem NvCopy.settings_eq (n : NvCopy) :
    n.settings =
      { press := min 16380 (n.fields.getD 0 0).toNat, release := min 16380 (n.fields.getD 1 0).toNat,
        zoneSet := min 15 (n.fields.getD 2 0).toNat, inputOffset := max (-400) (min 400 (n.fields.getD 3 0).toInt),
        idleColour := ⟨min 4095 (n.fields.getD 4 0).toNat, min 4095 (n.fields.getD 5 0).toNat,
          min 4095 (n.fields.getD 6 0).toNat, min 4095 (n.fields.getD 7 0).toNat⟩,
        pressColour := ⟨min 4095 (n.fields.getD 8 0).toNat, min 4095 (n.fields.getD 9 0).toNat,
          min 4095 (n.fields.getD 10 0).toNat, min 4095 (n.fields.getD 11 0).toNat⟩ } := rfl

/-- The register before a step of the check, from the register after it: its lowest bit is the feedback (R138). -/
def crcUnstep (b : Bool) (x : Byte) : Byte :=
  if x.getLsbD 0 then ((x ^^^ 0x1D) >>> 1) ||| (if b then 0 else 0x80) else (x >>> 1) ||| (if b then 0x80 else 0)

/-- A step of the check can be undone (R138). -/
theorem crcUnstep_crcStep (b : Bool) (r : Byte) : crcUnstep b (crcStep r b) = r := by
  revert r b
  unfold crcUnstep crcStep
  decide +kernel

/-- A step of the check loses nothing of the register (R138). -/
theorem crcStep_injective (b : Bool) (r r' : Byte) (h : crcStep r b = crcStep r' b) : r = r' := by
  rw [← crcUnstep_crcStep b r, h, crcUnstep_crcStep]

/-- A run of the check loses nothing of the register it starts from (R138). -/
theorem crcRun_injective (bits : List Bool) (r r' : Byte) (h : bits.foldl crcStep r = bits.foldl crcStep r') : r = r' := by
  induction bits generalizing r r' with
  | nil => exact h
  | cons b bs ih => exact crcStep_injective b _ _ (ih _ _ h)

end Sys2Proof.Machine
end

