-- ==== Sys2Proof/Laws/Word.lean ====
section
/-! SUPPORT. Four-fold records member by member. -/

namespace Sys2Proof

variable {α β γ : Type}

@[simp] theorem Quad.get_map (f : α → β) (q : Quad α) (i : Fin 4) : (q.map f).get i = f (q.get i) := by
  match i with
  | 0 | 1 | 2 | 3 => rfl

@[simp] theorem Quad.get_zip (f : α → β → γ) (p : Quad α) (q : Quad β) (i : Fin 4) :
    (Quad.zip f p q).get i = f (p.get i) (q.get i) := by
  match i with
  | 0 | 1 | 2 | 3 => rfl

@[simp] theorem Quad.get_fill (x : α) (i : Fin 4) : (Quad.fill x).get i = x := by
  match i with
  | 0 | 1 | 2 | 3 => rfl

theorem Quad.get_modify (q : Quad α) (i k : Fin 4) (f : α → α) :
    (q.modify i f).get k = if k = i then f (q.get i) else q.get k := by
  match i, k with
  | 0, 0 | 0, 1 | 0, 2 | 0, 3 | 1, 0 | 1, 1 | 1, 2 | 1, 3 | 2, 0 | 2, 1 | 2, 2 | 2, 3 | 3, 0 | 3, 1 | 3, 2 | 3, 3 => rfl

/-- Two records with the same members are the same. -/
theorem Quad.ext_get {p q : Quad α} (h : ∀ i, p.get i = q.get i) : p = q := by
  obtain ⟨a, b, c, d⟩ := p
  obtain ⟨a', b', c', d'⟩ := q
  have h0 := h 0
  have h1 := h 1
  have h2 := h 2
  have h3 := h 3
  simp only [Quad.get] at h0 h1 h2 h3
  simp [h0, h1, h2, h3]

theorem Quad.all_iff (p : α → Bool) (q : Quad α) : q.all p = true ↔ ∀ i, p (q.get i) = true := by
  constructor
  · intro h i
    simp only [Quad.all, Bool.and_eq_true] at h
    match i with
    | 0 => exact h.1.1.1
    | 1 => exact h.1.1.2
    | 2 => exact h.1.2
    | 3 => exact h.2
  · intro h
    simp only [Quad.all, Bool.and_eq_true]
    exact ⟨⟨⟨h 0, h 1⟩, h 2⟩, h 3⟩

end Sys2Proof
end

