-- ==== Sys2Proof/Tests/Slice0.lean ====
section
/-! SUPPORT. Tests of the model against the manual's worked cases, the smoke test of WellFormed, and for every statement with
hypotheses a state that meets them, at the ends of their ranges. Expected results are the manual's, named in each comment. -/

namespace Sys2Proof.Tests

open Sys2Proof Sys2Proof.Machine

/-! ### Builders -/

/-- The state a command leaves. -/
def after (c : Instr) (s : State) : State :=
  match exec c s with
  | .next t => t
  | .fault _ => s
  | .refused _ => s

/-- A HEALTHY or other zone at rest on a baseline. -/
def zone (condition : ZoneCondition) (baseline : Nat) : ZoneRecord := ⟨baseline, baseline, condition, 0, 0⟩

/-- Station of pad 0 and a panel, in IDLE with the line free. -/
def idleAt (panel : BitVec 4) : State :=
  { State.reset with
    straps := ⟨false, panel⟩
    station := { State.reset.station with state := .idle }
    line := { State.reset.line with state := .lineFree, highCount := 16 }
    sense := { State.reset.sense with zones := Quad.fill (zone .healthy 300), sampleTimer := some 0, samples := 32 } }

/-- That station in PLAYING at a tick, with end time 16,777,215 and the input offset given. -/
def playingAt (panel : BitVec 4) (tick : Nat) (offset : Int) : State :=
  let s := idleAt panel
  { s with
    station := { s.station with state := .playing, endTime := 16777215, silence := some 0 }
    settings := { s.settings with working := { s.settings.working with inputOffset := offset } }
    clock := { s.clock with tick := tick, running := true, nextMark := nextMarkAfter tick } }

/-- A WAITING TAP. -/
def tap (due : Nat) (partners : List Nat) : NoteEntry := ⟨due, .tap, partners, .waiting, none, false, none, false⟩

/-- A WAITING HOLD. -/
def hold (due length : Nat) (partners : List Nat) : NoteEntry :=
  ⟨due, .hold length, partners, .waiting, none, false, none, false⟩

/-- A state with these notes in its queue. -/
def withNotes (s : State) (entries : List NoteEntry) : State := { s with queue := { s.queue with entries := entries } }

/-- A state with the detector given, and the load, which zone 0 reads. -/
def feeling (s : State) (d : Detector) (load : Nat) : State :=
  let z := s.sense.zones.q0
  { s with sense := { s.sense with
      detector := d, load := load, zones := { s.sense.zones with q0 := { z with raw := z.baseline + load } } } }

/-- Readings with a load of 600 over baselines of 300. -/
def pressing : Quad (BitVec 12) := ⟨900, 300, 300, 300⟩

/-- A state whose own frame is in flight. -/
def flying (s : State) (state : LineState) (f : InFlight) : State :=
  { s with line := { s.line with state := state, highCount := 0, inFlight := some f } }

/-- A tap JUDGE frame of a due, latched in the form and with the tallies given. -/
def judgeFrame (header : Byte) (form : JudgeForm) (item : ReportItem) (r : JudgeResult) (p : Option Replica) : InFlight :=
  ⟨.report, header, 0, some ⟨.judge ⟨item, form, r, p, false⟩, []⟩, false⟩

/-- A TAP's member report or closure from a station. -/
def headReport (sender : BitVec 5) (due : BitVec 24) (g : Grade) (offset : BitVec 16) : HeadReport :=
  ⟨sender, .tap, due, g, false, offset⟩

/-- A record of own grade `own`. -/
def record (key : Nat) (expected : List Nat) (own : Option Grade) : ChordRecord := ⟨key, expected, [], own, false, false⟩

/-- The START of worked cases 3.9.1 and 6.9.1: windows 15, 30, 60, 120. -/
def songStart (first last : BitVec 24) : StartFrame := ⟨first, last, 1000, 15, 30, 60, 120, 50, 120, 2⟩

/-! ### WellFormed refuses what the manual does not let pass -/

theorem test_refuses_due_out_of_range :
    (Instr.lapse 16777216).wellFormed = false ∧ (Instr.holdEnd 16777216).wellFormed = false ∧
      (Instr.graceExpiry 16777216).wellFormed = false ∧ (Instr.forcedClosePoint 16777216).wellFormed = false := by decide

theorem test_refuses_quiet_beyond_yield_gap : (Instr.frameStart ⟨17, true, true, []⟩).wellFormed = false := by decide

/-- Address 9 is no valid station address (R148). -/
theorem test_refuses_sender :
    (Instr.mark ⟨9, 0⟩ .whole).wellFormed = false ∧
      (Instr.heardClosure (.forced 31 0 ⟨0, 0, 0⟩) .whole).wellFormed = false ∧
      (Instr.tailFrame ⟨25, 0, .ok, ⟨0, 0, 0⟩⟩ .whole).wellFormed = false ∧
      (Instr.statusReceived ⟨15, 3, List.replicate 10 0⟩ .whole).wellFormed = false := by decide

/-- A NOTE one byte too long for its kind and partner count (R37, R149). -/
theorem test_refuses_note_length : (Instr.note ⟨4, 100, 0, 1, [5, 6]⟩ .whole).wellFormed = false := by decide

/-- An offset of 801, and a lapse graded EXACT (R160). -/
theorem test_refuses_report :
    (Instr.memberReport (headReport 3 0 .wide 801) .whole).wellFormed = false ∧
      (Instr.orphan ⟨3, .tap, 0, .exact, true, 0⟩ .whole).wellFormed = false := by decide

/-- A score of 100,000,000 and a gauge of 1,608, as in worked case 9.11.2 (R160). -/
theorem test_refuses_tallies :
    (Instr.heardClosure (.head (headReport 3 40000 .tight 98) ⟨46000, 42, 1608⟩) .whole).wellFormed = false ∧
      (Instr.tailFrame ⟨3, 0, .ng, ⟨100000000, 0, 0⟩⟩ .whole).wellFormed = false := by decide

/-- SETUP field 12, QUERY page 4 and a STATUS page too short (R149, R164, R165). -/
theorem test_refuses_setup_query_status :
    (Instr.write ⟨0, 12, 0⟩ .whole).wellFormed = false ∧ (Instr.query ⟨0, 4⟩ .whole).wellFormed = false ∧
      (Instr.statusReceived ⟨3, 0, []⟩ .whole).wellFormed = false := by decide

/-- A discarded frame with fewer payload bytes than its length says. -/
theorem test_refuses_wire_length : (Instr.frameDiscarded ⟨0, 3, [], 0⟩).wellFormed = false := by decide

/-- No row of the table gives bits, so no word spells a command. -/
theorem test_no_word_spells_a_command : decodeTableWord 8 67 = none ∧ State.reset.withFetchWord 8 67 = State.reset :=
  ⟨rfl, rfl⟩

/-! ### Frames on the wire -/

/-- R138 by hand: from all ones, a 0 bit gives 11111110 combined with 00011101; a 1 bit gives 11111110. -/
theorem test_crc_first_bit : crc8 [false] = 0xE3 ∧ crc8 [true] = 0xFE := by decide

/-- Worked case 9.11.2: header 67, length 14, and the fields of the closing frame in the layout of R153. -/
theorem test_closing_frame_bytes :
    (Frame.closure (.head (headReport 3 40000 .tight 98) ⟨46000, 42, 608⟩)).wire.header = 67 ∧
      (Frame.closure (.head (headReport 3 40000 .tight 98) ⟨46000, 42, 608⟩)).payload.length = 14 ∧
      (Frame.closure (.head (headReport 3 40000 .tight 98) ⟨46000, 42, 608⟩)).payload.take 3 = [0x00, 0x9C, 0x40] ∧
      (Frame.closure (.head (headReport 3 40000 .tight 98) ⟨46000, 42, 608⟩)).payload.drop 4 =
        [0x00, 0x62, 0x00, 0x00, 0xB3, 0xB0, 0x00, 0x2A, 0x02, 0x60] := by decide

/-- Worked case 8.12.1: 67 meets 81 and 127, and station 3 wins with header 67. -/
theorem test_lowest_header_wins : arbitrate 67 [81, 127] = (true, bitsOf (67 : Byte)) := by decide

/-! ### The commands, against the worked cases -/

theorem test_reset_reads_straps : (after (.reset ⟨true, 4⟩) (playingAt 0 5 0)).address = 20 := by decide

/-- A blank copy does not hold, so the defaults are taken and marked (R126), and the sample timer starts (R1). -/
theorem test_settings_load_defaults :
    (after .settingsLoad State.reset).settings.defaulted = true ∧ (after .settingsLoad State.reset).lamp.press.q3 = 4095 ∧
      (after .settingsLoad State.reset).sense.sampleTimer = some 40 := by decide +kernel

/-- Station 6 of worked case 1.8.1, zone 1 FAULTY. -/
def faultedZone (tick : Nat) (d : Detector) : State :=
  let s := playingAt 6 tick 0
  { s with sense := { s.sense with
      zones := ⟨zone .healthy 812, zone .faulty 790, zone .healthy 805, zone .healthy 830⟩, detector := d } }

/-- Worked case 1.8.1 at 52,002: load 883, PRESSING with that candidate. -/
theorem test_sample_first_high :
    (after (.sample ⟨1210, 4095, 1020, 1100⟩) (faultedZone 52002 .released)).sense.load = 883 ∧
      (after (.sample ⟨1210, 4095, 1020, 1100⟩) (faultedZone 52002 .released)).sense.detector = .pressing 52002 := by decide

/-- Worked case 1.8.1 at 52,072: RELEASED, and the drift count counts again from 1. -/
theorem test_sample_releases :
    (after (.sample ⟨812, 4095, 805, 830⟩) (faultedZone 52072 (.releasing 52068 .two))).sense.detector = .released ∧
      (after (.sample ⟨812, 4095, 805, 830⟩) (faultedZone 52072 (.releasing 52068 .two))).sense.drift = 1 := by decide

/-- A zone record set in place of zone 2. -/
def zoneTwo (s : State) (z : ZoneRecord) : State := { s with sense := { s.sense with zones := { s.sense.zones with q2 := z } } }

/-- Worked case 1.8.2: at a rail count of 200 the zone is FAULTY with its count at 0 and its baseline of 805 kept. -/
theorem test_zone_fault :
    ((after (.zoneFault 2) (zoneTwo (playingAt 6 60398 0) ⟨4095, 805, .healthy, 200, 0⟩)).sense.zones.get 2) =
      ⟨4095, 805, .faulty, 0, 0⟩ := by decide

/-- R6: the baseline of a recovering zone is its reading. -/
theorem test_zone_recovery :
    ((after (.zoneRecovery 2) (zoneTwo (playingAt 6 70000 0) ⟨900, 805, .faulty, 0, 200⟩)).sense.zones.get 2) =
      ⟨900, 900, .healthy, 0, 0⟩ := by decide

/-- R9: at the 16th sample in RELEASED one count toward the reading, and the drift count returns to 0; at the 15th no baseline
moves. -/
theorem test_baseline_tracking :
    let s := fun drift => (fun s => { s with sense := { s.sense with drift := drift } }) (zoneTwo (playingAt 6 70000 0) ⟨900, 805, .healthy, 0, 0⟩)
    let t := after .baselineTracking (s 15)
    (t.sense.zones.get 2).baseline = 806 ∧ t.sense.drift = 0 ∧ after .baselineTracking (s 14) = s 14 := by decide

/-- Station 7 of worked case 4.10.1. -/
def stream (tick : Nat) (first : EntryState) : State :=
  withNotes (playingAt 7 tick (-6))
    [{ tap 50000 [] with state := first }, tap 50150 [], hold 50300 400 [], tap 50800 []]

/-- Worked case 4.10.1: the press stamped 50,130 takes 50,000 at +124, NEAR. The first sample above the threshold is no press (R12). -/
theorem test_press_takes_earliest :
    let t := after .press (feeling (stream 50132 .waiting) (.pressing 50130) 600)
    t.queue.entries.map NoteEntry.head = [some (.struck 124 .near), none, none, none] ∧ t.reports = [⟨.tap, 50000⟩] ∧
      t.sense.detector = .pressed ∧
      after .press (feeling (stream 50130 .waiting) .released 0) = feeling (stream 50130 .waiting) .released 0 := by decide

/-- Worked case 4.10.2: a short hold stepped late is JUDGED at once, and the lamp shows OK. -/
theorem test_press_late_short_hold :
    let t := after .press (feeling (withNotes (playingAt 3 30102 0) [hold 30000 40 []]) (.pressing 30100) 600)
    t.reports = [⟨.head, 30000⟩, ⟨.tail, 30000⟩] ∧ t.lamp.flash = some ⟨⟨0, 0, 4095, 0⟩, 16, 0⟩ := by decide

/-- Worked case 4.10.1: the release stamped 50,520 slips the hold from 50,514, at the third low sample; at the second it is none
(R13). -/
theorem test_release_slips :
    let s := fun n => feeling (withNotes (playingAt 7 50524 (-6)) [{ hold 50300 400 [] with state := .holding }]) (.releasing 50520 n) 0
    (after .release (s .two)).queue.entries.map NoteEntry.state = [.slipping 50514] ∧
      after .release (s .one) = s .one := by decide

/-- R59: with a hold grace of 0 the release ends the hold NG at once. -/
theorem test_release_without_grace :
    let s := feeling (withNotes (playingAt 7 50524 0) [{ hold 50300 400 [] with state := .holding }]) (.releasing 50520 .two) 0
    (after .release { s with judge := { s.judge with g := 0 } }).queue.entries.map NoteEntry.tail = [some .ng] := by decide

theorem test_startup_end :
    let s := { State.reset with sense := { State.reset.sense with samples := 32 } }
    (after .startupEnd { s with straps := ⟨false, 8⟩ }).station.state = .idle ∧
      (after .startupEnd { s with straps := ⟨true, 9⟩ }).station.cause = .strap := by decide

/-- R20, R24: the boundary that brings the tick to 25,600 pends the MARK. -/
theorem test_tick_advance_pends_mark :
    let s := playingAt 2 25599 0
    (after .tickAdvance s).clock = ⟨25600, 0, true, false, some 25600, true, false⟩ := by decide

/-- Worked case 3.9.2: a hold lapses with a HEAD and then a TAIL item. -/
theorem test_lapse_of_hold :
    let t := after (.lapse 40000) (withNotes (playingAt 6 40485 0) [hold 40000 300 [], tap 40500 []])
    t.reports = [⟨.head, 40000⟩, ⟨.tail, 40000⟩] ∧ t.queue.entries.map NoteEntry.tail = [some .ng, none] := by decide

/-- R62: at the allowance's last tick, due + w + 4, the note still waits. -/
theorem test_lapse_not_yet :
    (after (.lapse 40000) (withNotes (playingAt 6 40484 0) [tap 40000 []])).reports = [] := by decide

/-- Worked case 4.10.2: with slip-start 70,299 the hold end at 70,500 is taken and the grace expiry skipped. -/
theorem test_hold_end_at_grace :
    let s := withNotes (playingAt 3 70500 0) [{ hold 70000 500 [] with state := .slipping 70299 }]
    (after (.holdEnd 70000) s).queue.entries.map NoteEntry.tail = [some .ok] ∧
      (after (.graceExpiry 70000) s).queue.entries.map NoteEntry.tail = [none] := by decide

/-- Worked case 4.10.2: with slip-start 70,298 the grace expiry at 70,499 gives NG. -/
theorem test_grace_expiry :
    let s := withNotes (playingAt 3 70499 0) [{ hold 70000 500 [] with state := .slipping 70298 }]
    (after (.graceExpiry 70000) s).queue.entries.map NoteEntry.tail = [some .ng] := by decide

/-- Worked case 5.9.2: at clock 88,685 station 2 adds a forced-close item; at 88,684 not yet. -/
theorem test_forced_close_point :
    let at_ := fun n => { playingAt 2 n 0 with chords := [{ record 88000 [4, 6] (some .exact) with ownSent := true }] }
    (after (.forcedClosePoint 88000) (at_ 88685)).reports = [⟨.forced, 88000⟩] ∧
      (after (.forcedClosePoint 88000) (at_ 88684)).reports = [] := by decide

theorem test_mark_point :
    let s := playingAt 2 25600 0
    (after .markPoint { s with clock := { s.clock with nextMark := some 25600 } }).clock.markPending = true := by decide

theorem test_saturation :
    (after .saturation (playingAt 2 16777215 0)).clock = ⟨16777215, 0, true, true, none, false, false⟩ := by decide

theorem test_silence_timeout :
    (after .silenceTimeout (playingAt 2 100 0)).station.state = .lost ∧
      (after .silenceTimeout (playingAt 2 100 0)).lamp.pattern = .lost := by decide

/-- Worked case 10.7.1: with 13 steps left a TIGHT flash shows 3327 on green and blue. -/
theorem test_flash_step :
    let s := playingAt 5 71000 0
    composed (after .flashStep { s with lamp := { s.lamp with flash := some ⟨⟨0, 4095, 4095, 0⟩, 14, 0⟩ } }) =
      ⟨0, 3327, 3327, 0⟩ := by decide

theorem test_fault_pattern_timer :
    let s := idleAt 9
    composed (after .faultPatternTimer { s with lamp := { s.lamp with pattern := .faultStrap, patternTimer := 19999 } }) =
      ⟨0, 0, 4095, 0⟩ := by decide

/-- Worked case 10.7.2: over-current in the first period of an OK flash latches blue, whose next duty is 0. -/
theorem test_pwm_short :
    let s := playingAt 2 100 0
    let s := { s with lamp := { s.lamp with
      flash := some ⟨⟨0, 0, 4095, 0⟩, 16, 0⟩, channels := Quad.fill ⟨false, 0, false, 4095⟩ } }
    let t := after (.pwmPeriod ⟨⟨true, false⟩, ⟨true, false⟩, ⟨true, true⟩, ⟨true, false⟩⟩) s
    t.lamp.channels.get 2 = ⟨false, 0, true, 0⟩ := by decide

/-- R175: the eighth measured period without current sets the open flag. -/
theorem test_pwm_open :
    let s := playingAt 2 100 0
    let s := { s with lamp := { s.lamp with channels := Quad.fill ⟨false, 7, false, 64⟩ } }
    (after (.pwmPeriod (Quad.fill ⟨false, false⟩)) s).lamp.channels.get 3 = ⟨true, 0, false, 0⟩ := by decide

theorem test_open_flag :
    let s := playingAt 2 100 0
    ((after (.openFlag 1) { s with lamp := { s.lamp with channels := Quad.fill ⟨true, 8, false, 64⟩ } }).lamp.channels.get 1) =
      ⟨false, 0, false, 64⟩ := by decide

theorem test_store_complete :
    let s := idleAt 0
    let t := after .storeComplete { s with settings := { s.settings with job := some ⟨s.settings.working, 1600⟩, defaulted := true } }
    t.settings.nv.fields.take 4 = [600, 300, 15, 0] ∧ t.settings.defaulted = false := by decide

theorem test_idle_gap :
    let s := idleAt 0
    (after .idleGap { s with line := { s.line with state := .lineBreak, highCount := 0 } }).line.state = .lineFree := by decide

/-- Worked case 8.12.1: after its own MARK station 5 needs 16 cells; station 3 starts at 10 with header 67. Another's falling edge
begins an assembly though the station has nothing to send (R134). -/
theorem test_frame_start_gaps :
    let s := { playingAt 5 100 0 with reports := [⟨.tap, 90⟩] }
    let s3 := { playingAt 3 100 0 with reports := [⟨.tap, 90⟩] }
    after (.frameStart ⟨10, false, true, []⟩) { s with line := { s.line with highCount := 10, lastSender := true } } =
        { s with line := { s.line with highCount := 10, lastSender := true } } ∧
      (after (.frameStart ⟨10, false, true, [81, 127]⟩) { s3 with line := { s3.line with highCount := 10 } }).line.inFlight =
        some ⟨.report, 67, 100, none, false⟩ ∧
      (after (.frameStart ⟨0, false, false, []⟩) (idleAt 5)).line.assembly = some ⟨[], 0⟩ := by decide

/-- Worked case 8.12.1: station 17 loses to 67 and follows the frame. -/
theorem test_frame_start_loses :
    let s := { playingAt 1 100 0 with straps := ⟨true, 1⟩, reports := [⟨.tap, 90⟩] }
    (after (.frameStart ⟨10, false, true, [67, 127]⟩) s).line.state = .receiving ∧
      (after (.frameStart ⟨10, false, true, [67, 127]⟩) s).line.inFlight = none := by decide

/-- Station 3 of worked case 6.9.1, its TAP stepped at +98 and station 0's report heard, at its latch. -/
def secondFoot : State :=
  let s := withNotes (playingAt 3 40100 12) [{ tap 40000 [0] with state := .judged, head := some (.struck 98 .tight) }]
  { s with
    reports := [⟨.tap, 40000⟩]
    chords := [{ record 40000 [0] (some .tight) with reports := [(0, .exact)] }]
    tally := { s.tally with replica := ⟨45250, 41, 41, 600⟩, noteValue := 1000 }
    line := { s.line with state := .contending, highCount := 0, inFlight := some ⟨.report, 67, 40090, none, false⟩ } }

/-- Worked cases 6.9.1 and 9.11.2: the latch fixes the closing frame, with 46,000, 42 and 608. -/
theorem test_payload_latch :
    ((after .payloadLatch secondFoot).line.inFlight.bind InFlight.latched).map Latched.payload =
      some (Frame.closure (.head (headReport 3 40000 .tight 98) ⟨46000, 42, 608⟩)).payload := by decide

/-- Worked case 6.9.1: at its end-of-frame station 3 applies the values and counts one TIGHT. -/
theorem test_judge_sent :
    let t := after (.judgeSent ⟨true, false⟩) (after .payloadLatch secondFoot)
    t.tally.replica = ⟨46000, 42, 42, 608⟩ ∧ t.tally.counts.tight = 1 ∧ t.queue.entries = [] ∧ t.chords = [] ∧ t.reports = [] := by
  decide

/-- R25: at its MARK's end the slot is empty and the next mark point 25,856. -/
theorem test_mark_sent :
    let s := playingAt 2 25602 0
    let s := flying { s with clock := { s.clock with markPending := true, nextMark := some 25600 } } .sending
      ⟨.mark, 2, 25600, some ⟨.mark, [0, 100, 0]⟩, false⟩
    (after (.markSent ⟨true, false⟩) s).clock = ⟨25602, 0, true, false, some 25856, false, false⟩ := by decide

theorem test_status_sent :
    let s := idleAt 6
    let s := flying { s with line := { s.line with statusSlot := some 3 } } .sending ⟨.status, 230, 0, some ⟨.status, [3]⟩, false⟩
    (after (.statusSent ⟨false, false⟩) s).line.statusSlot = none := by decide

/-- Worked case 2.8.1: station 17 at (25,601, 15) hears s = 25,600 and steps 14 cells to (25,602, 9). -/
theorem test_mark_steps_forward :
    let s := playingAt 1 25601 0
    let s := { s with clock := { s.clock with phase := 15, markPending := true, nextMark := some 25600 } }
    (after (.mark ⟨2, 25600⟩ .whole) s).clock = ⟨25602, 9, true, false, some 25856, false, false⟩ := by decide

/-- Worked case 2.8.3: a step of 805 cells sets the slip flag, and forced close and grace expiry are taken in order. -/
theorem test_mark_slip :
    let s := withNotes (playingAt 4 80120 0)
      [{ hold 79500 645 [] with state := .slipping 79930, head := some (.struck 0 .exact), headSent := true }, tap 80150 []]
    let s := { s with
      straps := ⟨true, 4⟩, clock := { s.clock with phase := 4, markPending := true, nextMark := some 79872 }
      chords := [{ record 79440 [21] (some .exact) with ownSent := true }] }
    let t := after (.mark ⟨2, 80158⟩ .whole) s
    t.clock = ⟨80160, 9, true, false, some 80384, false, true⟩ ∧ t.reports = [⟨.forced, 79440⟩, ⟨.tail, 79500⟩] := by decide

/-- Worked case 3.9.1: the START purges 11,500 and 90,000 and counts 2. -/
theorem test_start_purges :
    let s := withNotes (idleAt 4) [tap 11500 [], tap 12000 [], hold 12400 600 [5], tap 13001 [20], tap 90000 []]
    let s := { s with settings := { s.settings with working := { s.settings.working with inputOffset := 8 } } }
    let t := after (.start (songStart 12200 80000) .whole) s
    t.queue.entries.map NoteEntry.due = [12000, 12400, 13001] ∧ t.queue.staleCount = 2 ∧ t.judge.w = 480 ∧
      t.tally.replica.gauge = 600 := by decide

/-- The rows of 7.6.1. -/
theorem test_window_clamp :
    let clamp := fun e t n w => startParams ⟨0, 0, 0, e, t, n, w, 0, 0, 0⟩
    clamp 0 0 0 0 = ⟨4, 8, 12, 16, 0⟩ ∧ clamp 50 50 10 250 = ⟨200, 204, 208, 800, 0⟩ ∧
      clamp 40 30 20 10 = ⟨160, 164, 168, 172, 0⟩ ∧ clamp 1 2 199 210 = ⟨4, 8, 796, 800, 0⟩ ∧
      clamp 255 255 255 255 = ⟨788, 792, 796, 800, 0⟩ := by decide

theorem test_stop :
    let t := after (.stop .whole) (withNotes (playingAt 4 5000 0) [tap 6000 []])
    t.station.state = .idle ∧ t.clock.running = false ∧ t.clock.tick = 5000 ∧ t.queue.entries = [] := by decide

/-- Worked case 3.9.1, frames d and e: 13,000 is the last tick of the hold's span, and a station is not its own partner. -/
theorem test_note_refused :
    let s := withNotes (idleAt 4) [tap 12000 [], hold 12400 600 [5]]
    (after (.note ⟨4, 13000, 0, 0, []⟩ .whole) s).queue.lastRefusal = .overlap ∧
      (after (.note ⟨4, 13001, 0, 1, [4]⟩ .whole) s).queue.lastRefusal = .malformed := by decide

/-- Worked case 3.9.1, frame i: 11,500 is put ahead of the notes held. -/
theorem test_note_in_due_order :
    (after (.note ⟨4, 11500, 0, 0, []⟩ .whole) (withNotes (idleAt 4) [tap 12000 [], hold 12400 600 [5]])).queue.entries =
      [tap 11500 [], tap 12000 [], hold 12400 600 [5]] := by decide

/-- Station 21 of worked case 5.9.1, with its own EXACT recorded. -/
def jump : State :=
  { withNotes (playingAt 5 64070 0) [{ tap 64000 [17] with state := .judged, head := some (.struck (-20) .exact) }] with
    straps := ⟨true, 5⟩, chords := [record 64000 [17] (some .exact)], reports := [⟨.tap, 64000⟩] }

/-- Worked case 5.9.1: station 21 hears 17's TIGHT. -/
theorem test_member_report :
    ((after (.memberReport (headReport 17 64000 .tight 65) .whole) jump).chords.map ChordRecord.reports) = [[(17, .tight)]] := by
  decide

theorem test_orphan_changes_no_record :
    (after (.orphan (headReport 17 64000 .tight 65) .whole) jump).chords = jump.chords := by decide

/-- Worked case 5.9.1 turned round: the record goes, the lamp flashes TIGHT, and the unreported entry is chord-closed (R83). -/
theorem test_heard_closure :
    let t := after (.heardClosure (.head (headReport 17 64000 .tight 65) ⟨750, 1, 608⟩) .whole) jump
    t.chords = [] ∧ t.lamp.flash = some ⟨⟨0, 4095, 4095, 0⟩, 16, 0⟩ ∧ t.queue.entries.map NoteEntry.chordClosed = [true] ∧
      t.tally.replica = ⟨750, 1, 1, 608⟩ := by decide

/-- Worked case 6.9.1: stations 16..24 are player 1 and do not adopt. -/
theorem test_tail_frame_of_other_player :
    (after (.tailFrame ⟨3, 40000, .ok, ⟨46000, 42, 608⟩⟩ .whole) jump).tally = jump.tally ∧
      (after (.tailFrame ⟨18, 40000, .ok, ⟨46000, 42, 608⟩⟩ .whole) jump).tally.replica = ⟨46000, 42, 42, 608⟩ := by decide

/-- Worked case 9.11.3: the press colour is taken, and station 16 is not in the target set. -/
theorem test_lamp :
    (after (.lamp ⟨0x1FF, .press, ⟨0, 2048, 4095, 0⟩⟩ .whole) (idleAt 4)).lamp.press = ⟨0, 2048, 4095, 0⟩ ∧
      (after (.lamp ⟨0x1FF, .press, ⟨0, 2048, 4095, 0⟩⟩ .whole) { idleAt 0 with straps := ⟨true, 0⟩ }).lamp.press =
        ⟨0, 0, 0, 0⟩ := by decide

/-- Worked case 9.11.3: the short latch of station 4's red channel is cleared. -/
theorem test_clear_latch :
    let s := idleAt 4
    let s := { s with lamp := { s.lamp with channels := Quad.fill ⟨false, 0, true, 0⟩ } }
    (after (.clearLatch ⟨0x1FF, .press, ⟨0, 2048, 4095, 0⟩⟩ .whole) s).lamp.channels.q0.shortLatch = false := by decide

/-- R125, R127: the release threshold is clamped to 16,380, and a busy station takes nothing. -/
theorem test_write :
    let s := idleAt 4
    (after (.write ⟨4, 1, 65535⟩ .whole) s).settings.working.release = 16380 ∧
      (after (.write ⟨4, 1, 65535⟩ .whole)
        { s with settings := { s.settings with job := some ⟨s.settings.working, 0⟩ } }).settings.working.release = 300 := by decide

theorem test_store : (after (.store 4 .whole) (idleAt 4)).settings.job.isSome = true := by decide

theorem test_restart : (after (.restart 4 ⟨true, 2⟩ .whole) (idleAt 4)).station.state = .startup := by decide

/-- Worked case 9.11.1: the second QUERY replaces the page. -/
theorem test_query :
    let s := idleAt 6
    (after (.query ⟨6, 3⟩ .whole) { s with line := { s.line with statusSlot := some 0 } }).line.statusSlot = some 3 := by decide

theorem test_status_received_faults_duplicate :
    (after (.statusReceived ⟨6, 3, List.replicate 10 0⟩ .whole) (idleAt 6)).station.cause = .duplicate := by decide

theorem test_runt :
    let s := beginAssembly (idleAt 6)
    (after .runt s).line.assembly = none := by decide

/-- Worked case 3.9.2: a head frame aborted by a break leaves entry and report list as they were. -/
theorem test_long_low_and_break_abort :
    let s := flying { playingAt 6 40600 0 with reports := [⟨.head, 40000⟩, ⟨.tail, 40000⟩] } .sending
      (judgeFrame 70 .closingSingle ⟨.head, 40000⟩ (.grade .miss) (some ⟨0, 0, 0, 550⟩))
    (after .longLow s).reports = [⟨.head, 40000⟩, ⟨.tail, 40000⟩] ∧ (after .longLow s).line.inFlight = none ∧
      (after .lineBreak s).line.state = .lineBreak ∧ (after .lineBreak s).tally = s.tally := by decide

/-- R143, R145: a frame that stops on the line leaves RECEIVING, the last-sender flag clear and a high count of 2. -/
theorem test_frame_timeout :
    let s := beginAssembly (idleAt 6)
    (after .frameTimeout { s with line := { s.line with lastSender := true } }).line = ⟨.receiving, 2, false, none, none, none, none⟩ := by
  decide

/-- A MARK whose CRC is wrong does not count as received, and no block but the line changes (R139). -/
theorem test_frame_discarded :
    let s := playingAt 2 25600 0
    let s := { s with station := { s.station with silence := some 7 } }
    (after (.frameDiscarded ⟨3, 3, [0, 0, 0], 0⟩) s).clock = s.clock ∧
      (after (.frameDiscarded ⟨3, 3, [0, 0, 0], 0⟩) s).station.silence = some 7 := by decide +kernel

theorem test_line_break_falling_edge :
    let s := idleAt 6
    (after .lineBreakFallingEdge { s with line := { s.line with state := .lineBreak, highCount := 7 } }).line.highCount = 0 := by
  decide

theorem test_power_loss :
    (after .powerLoss (idleAt 6)).powered = false ∧ after .press (after .powerLoss (idleAt 6)) = after .powerLoss (idleAt 6) := by
  decide

/-! ### Witnesses: states that meet the hypotheses of the statements, clause by clause -/

theorem witness_StepRunsFront : { idleAt 0 with pending := [.runt] }.pending = Instr.runt :: [] := rfl

theorem witness_IdleStepPassesOneCell :
    ({ idleAt 0 with powered := false }.pending = [] ∧ { idleAt 0 with powered := false }.powered = false) ∧
    (let s := { playingAt 0 100 0 with clock := { (playingAt 0 100 0).clock with phase := 18 } }
     s.pending = [] ∧ s.powered = true ∧ clockSound s = true ∧ s.clock.advances = true ∧ s.clock.phase < 19 ∧
       s.line.assembly = none) ∧
    (let s := { playingAt 0 100 0 with
       clock := { (playingAt 0 100 0).clock with phase := 19 }
       station := { (playingAt 0 100 0).station with state := .done } }
     s.pending = [] ∧ s.powered = true ∧ s.clock.advances = true ∧ s.clock.phase = 19 ∧ s.station.state = .done) ∧
    (let s := fun high => (fun s => { s with line := { s.line with highCount := high } }) (beginAssembly (idleAt 0))
     (s 1).pending = [] ∧ (s 1).powered = true ∧ (s 1).station.state ≠ .startup ∧ (s 1).line.assembly.isSome = true ∧
       (s 1).line.inFlight = none ∧ (s 1).line.highCount < 2 ∧ 2 ≤ (s 2).line.highCount) := by decide

theorem witness_EveryCommandAnswers : (∀ p, Instr.runt ≠ .reset p) ∧ { idleAt 0 with powered := false }.powered = false :=
  ⟨fun _ h => (nomatch h), rfl⟩

theorem witness_GuardedRegisters :
    (after (.reset ⟨true, 1⟩) (idleAt 0)).straps ≠ (idleAt 0).straps ∧
    (after (.start ⟨0, 1, 2, 0, 0, 0, 0, 0, 0, 0⟩ .whole) (idleAt 0)).judge ≠ (idleAt 0).judge ∧
    (after (.start ⟨0, 1, 2, 0, 0, 0, 0, 0, 0, 0⟩ .whole) (idleAt 0)).tally.noteValue ≠ (idleAt 0).tally.noteValue ∧
    (after (.write ⟨0, 0, 1⟩ .whole) (idleAt 0)).settings.working ≠ (idleAt 0).settings.working ∧
    (let s := idleAt 0
     let s := { s with settings := { s.settings with job := some ⟨s.settings.working, 0⟩ } }
     (after .storeComplete s).settings.nv ≠ s.settings.nv) := by decide

theorem witness_TwoPointsMakeAWhole :
    let s := { playingAt 0 100 0 with clock := { (playingAt 0 100 0).clock with phase := 18 } }
    (Instr.stop .whole).frame.isSome = true ∧ s.clock.phase ≠ 19 ∧
      ∃ t, exec ((Instr.stop .whole).atPoint .ackCell) s = .next t := ⟨rfl, by decide, _, rfl⟩

/-- A state with a STORE in progress. -/
def storing (s : State) : State := { s with settings := { s.settings with job := some ⟨s.settings.working, 0⟩ } }

theorem witness_ResetAndPowerLoss :
    (idleAt 0).settings.job = none ∧ (storing (idleAt 0)).settings.job ≠ none ∧ (idleAt 0).powered = true ∧
      (storing (idleAt 0)).powered = true := by decide

theorem witness_SettingsLoaded :
    (State.reset.powered = true ∧ State.reset.station.state = .startup ∧ State.reset.sense.sampleTimer = none ∧
      State.reset.settings.nv.holds = false) ∧
    { State.reset.settings with nv := copyOf .defaults }.nv.holds = true := by decide +kernel

theorem witness_StoreCompletes :
    (storing (idleAt 0)).powered = true ∧ (storing (idleAt 0)).settings.job = some ⟨.defaults, 0⟩ ∧
      Settings.sound .defaults = true := by decide

/-- STARTUP with 32 samples taken, on a panel strap. -/
def sampled (panel : BitVec 4) : State :=
  { State.reset with straps := ⟨false, panel⟩, sense := { State.reset.sense with samples := 32 } }

theorem witness_StartupEnds :
    ((sampled 8).powered = true ∧ (sampled 8).station.state = .startup ∧ 32 ≤ (sampled 8).sense.samples ∧
      (sampled 8).straps.panel.toNat ≤ 8) ∧
    ((sampled 9).station.state = .startup ∧ 9 ≤ (sampled 9).straps.panel.toNat) := by decide

/-- A station at play whose four zones are these. -/
def zoned (zones : Quad ZoneRecord) : State :=
  { playingAt 0 100 0 with sense := { (playingAt 0 100 0).sense with zones := zones } }

/-- Each zone clause at the ends of its range: counts of 199 and 198, readings of 0, 4095, 1 and 4094. -/
theorem witness_SampleReadsZones :
    let s := zoned ⟨⟨0, 0, .healthy, 199, 0⟩, ⟨0, 0, .healthy, 198, 0⟩, ⟨0, 0, .faulty, 0, 199⟩, ⟨0, 0, .faulty, 0, 198⟩⟩
    let r : Quad (BitVec 12) := ⟨0, 4095, 1, 4094⟩
    let s' := zoned ⟨⟨0, 0, .healthy, 0, 0⟩, ⟨0, 0, .faulty, 0, 0⟩, ⟨0, 0, .off, 0, 0⟩, ⟨0, 0, .off, 0, 0⟩⟩
    (s.powered = true ∧ s.sense.sampleTimer.isSome = true ∧ s.station.state ≠ .startup ∧ s.sense.samples ≠ 0 ∧ ¬15 ≤ s.sense.drift ∧
      (after (.sample r) s).sense.detector = .pressing 100 ∧ (after (.sample (Quad.fill 0)) s).sense.detector = .released) ∧
    ((r.get 0).toNat = 0 ∧ 199 ≤ (s.sense.zones.get 0).railCount) ∧ ((r.get 1).toNat = 4095 ∧ (s.sense.zones.get 1).railCount < 199) ∧
    (¬((r.get 2).toNat = 0 ∨ (r.get 2).toNat = 4095) ∧ 199 ≤ (s.sense.zones.get 2).insideCount) ∧
    (¬((r.get 3).toNat = 0 ∨ (r.get 3).toNat = 4095) ∧ (s.sense.zones.get 3).insideCount < 199) ∧
    (¬((r.get 2).toNat = 0 ∨ (r.get 2).toNat = 4095) ∧ (s'.sense.zones.get 0).condition = .healthy) ∧
    ((r.get 1).toNat = 4095 ∧ (s'.sense.zones.get 1).condition = .faulty) ∧ (s'.sense.zones.get 2).condition = .off := by decide

/-- The first sample of STARTUP, and the last with a drift count of 14 and of 15. -/
theorem witness_SampleInStartup :
    let s := fun n drift => { State.reset with sense := { State.reset.sense with sampleTimer := some 40, samples := n, drift := drift } }
    ((s 0 0).powered = true ∧ (s 0 0).sense.sampleTimer.isSome = true ∧ (s 0 0).station.state = .startup ∧ (s 0 0).sense.samples < 32 ∧
      (s 0 0).sense.samples = 0) ∧
    ((s 31 14).sense.samples < 32 ∧ (s 31 14).sense.samples ≠ 0 ∧ (s 31 14).sense.detector = .released ∧ (s 31 14).sense.drift < 15 ∧
      15 ≤ (s 31 15).sense.drift) := by decide

/-- A load of 600 presses and one of 299 releases, with the default thresholds; and every detector state. -/
theorem witness_SampleMovesDetector :
    let s := fun d => feeling (zoned (Quad.fill (zone .healthy 0))) d 0
    (s .released).powered = true ∧ (s .released).sense.sampleTimer.isSome = true ∧ (s .released).station.state ≠ .startup ∧
    (s .released).sense.samples ≠ 0 ∧
    (after (.sample ⟨600, 0, 0, 0⟩) (s .released)).sense.load = 600 ∧
    (after (.sample ⟨599, 0, 0, 0⟩) (s (.pressing 98))).sense.load = 599 ∧
    (after .press (feeling (s (.pressing 98)) (.pressing 98) 600)).sense.detector = .pressed ∧
    (after .release (feeling (s (.releasing 96 .two)) (.releasing 96 .two) 299)).sense.detector = .released ∧
    (after (.sample ⟨300, 0, 0, 0⟩) (s .pressed)).sense.detector = .pressed ∧
    (after (.sample ⟨299, 0, 0, 0⟩) (s .pressed)).sense.detector = .releasing 100 .one ∧
    (after (.sample ⟨299, 0, 0, 0⟩) (s (.releasing 98 .one))).sense.detector = .releasing 98 .two ∧
    (after (.sample ⟨299, 0, 0, 0⟩) (s (.releasing 96 .two))).sense.detector = .released := by decide

theorem witness_ZoneEvents :
    ((zoneTwo (idleAt 0) ⟨0, 0, .healthy, 200, 0⟩).powered = true ∧
      ((zoneTwo (idleAt 0) ⟨0, 0, .healthy, 200, 0⟩).sense.zones.get 2).condition = .healthy ∧
      200 ≤ ((zoneTwo (idleAt 0) ⟨0, 0, .healthy, 200, 0⟩).sense.zones.get 2).railCount) ∧
    (((zoneTwo (idleAt 0) ⟨0, 0, .faulty, 0, 200⟩).sense.zones.get 2).condition = .faulty ∧
      200 ≤ ((zoneTwo (idleAt 0) ⟨0, 0, .faulty, 0, 200⟩).sense.zones.get 2).insideCount) ∧
    (let s := fun drift => { idleAt 0 with sense := { (idleAt 0).sense with drift := drift } }
     (s 15).powered = true ∧ (s 15).sense.sampleTimer.isSome = true ∧ (s 15).sense.samples ≠ 0 ∧ (s 15).sense.detector = .released ∧
       (s 15).station.state ≠ .startup ∧ loadAfterStage1 ⟨899, 300, 300, 300⟩ (s 15) < (s 15).settings.working.effectivePress ∧
       15 ≤ (s 15).sense.drift ∧ (s 14).sense.drift < 15 ∧
       (∀ i : Fin 4, ((Quad.fill (300 : BitVec 12)).get i).toNat = ((s 14).sense.zones.get i).raw)) := by decide

/-- Offsets at the ends of the default windows (R55). -/
theorem witness_GradeOfOffset :
    let size := fun time due : Nat => ((time : Int) - (due : Int)).natAbs
    size 60 0 ≤ JudgeParams.atReset.e ∧ JudgeParams.atReset.e < size 0 61 ∧ size 0 61 ≤ JudgeParams.atReset.t ∧
      JudgeParams.atReset.n < size 241 0 := by decide

/-- Station 7 of worked case 4.10.1 when the press stamped 50,182 is confirmed. -/
theorem witness_PressMatchesTap :
    let s := feeling (stream 50184 .judged) (.pressing 50182) 600
    s.powered = true ∧ s.sense.sampleTimer.isSome = true ∧ s.sense.samples ≠ 0 ∧ s.station.state = .playing ∧
    s.settings.working.effectivePress = loadAfterStage1 pressing s ∧ (∀ i : Fin 4, (pressing.get i).toNat = (s.sense.zones.get i).raw) ∧
    s.queue.entries = [{ tap 50000 [] with state := .judged }] ++ tap 50150 [] :: [hold 50300 400 [], tap 50800 []] ∧
    (∀ x ∈ s.queue.entries, x.state.isSlipping = false) ∧
    (∀ x ∈ [{ tap 50000 [] with state := .judged }], x.state.isWaiting = true → s.judge.w < tickDistance (s.adjust 50182) x.due) ∧
    tickDistance (s.adjust 50182) 50150 ≤ s.judge.w ∧ s.hasRoomFor (tap 50150 []) = true := by decide

/-- A press at the end of the window, due + w, on a hold that has ended and one of a chord that has not. -/
theorem witness_PressMatchesHold :
    let s := fun e => feeling (withNotes (playingAt 3 30482 0) [e]) (.pressing 30480) 600
    (s (hold 30000 40 [])).powered = true ∧ (s (hold 30000 40 [])).sense.sampleTimer.isSome = true ∧
    (s (hold 30000 40 [])).sense.samples ≠ 0 ∧ (s (hold 30000 40 [])).station.state = .playing ∧
    (s (hold 30000 40 [])).settings.working.effectivePress ≤ loadAfterStage1 pressing (s (hold 30000 40 [])) ∧
    (s (hold 30000 40 [])).queue.entries = [] ++ hold 30000 40 [] :: [] ∧
    tickDistance ((s (hold 30000 40 [])).adjust 30480) 30000 = (s (hold 30000 40 [])).judge.w ∧ 30040 ≤ (s (hold 30000 40 [])).adjClock ∧
    (∀ i : Fin 4, (pressing.get i).toNat = ((s (hold 30000 40 [])).sense.zones.get i).raw) ∧
    (s (hold 30000 483 [5])).adjClock < 30000 + 483 ∧ (s (hold 30000 483 [5])).hasRoomFor (hold 30000 483 [5]) = true := by decide

theorem witness_PressRegripsOrStrays :
    (let s := feeling (idleAt 0) (.pressing 0) 600
     s.powered = true ∧ s.sense.sampleTimer.isSome = true ∧ s.sense.samples ≠ 0 ∧ s.station.state ≠ .startup ∧
       s.settings.working.effectivePress ≤ loadAfterStage1 pressing s ∧ (∀ i : Fin 4, (pressing.get i).toNat = (s.sense.zones.get i).raw) ∧
       s.station.state ≠ .playing ∧ s.station.state ≠ .lost) ∧
    (let s := feeling (withNotes (playingAt 7 50602 (-6)) [{ hold 50300 400 [] with state := .slipping 50514 }]) (.pressing 50600) 600
     s.queue.entries = [] ++ { hold 50300 400 [] with state := .slipping 50514 } :: [] ∧
       s.settings.working.effectivePress ≤ loadAfterStage1 pressing s) ∧
    (let s := feeling (withNotes (playingAt 7 49521 0) [tap 50000 []]) (.pressing 49519) 600
     ∀ x ∈ s.queue.entries, x.state.isSlipping = false ∧
       (x.state.isWaiting = true → s.judge.w < tickDistance (s.adjust 49519) x.due)) := by decide

theorem witness_ReleaseSlips :
    let s := fun n => feeling (withNotes (playingAt 7 n 0) [{ hold 50300 400 [] with state := .holding }]) (.releasing 50520 .two) 299
    (s 50524).powered = true ∧ (s 50524).sense.sampleTimer.isSome = true ∧ (s 50524).sense.samples ≠ 0 ∧
    (s 50524).station.state ≠ .startup ∧ (∀ i : Fin 4, ((⟨599, 300, 300, 300⟩ : Quad (BitVec 12)).get i).toNat = ((s 50524).sense.zones.get i).raw) ∧
    loadAfterStage1 ⟨599, 300, 300, 300⟩ (s 50524) < (s 50524).settings.working.effectiveRelease ∧
    (s 50524).queue.entries = [] ++ { hold 50300 400 [] with state := .holding } :: [] ∧
    (s 50720).adjClock ≤ (s 50720).adjust 50520 + (s 50720).judge.g ∧
    (s 50721).adjust 50520 + (s 50721).judge.g < (s 50721).adjClock ∧
    (feeling (idleAt 0) (.releasing 0 .two) 299).station.state ≠ .playing := by decide

/-- At the ends: the tick before the limit, a TAP that lapses at exactly the new adjusted clock, and a station in LOST that takes two
thresholds together. -/
theorem witness_TickAdvances :
    (let s := playingAt 0 16777214 0
     s.powered = true ∧ s.clock.running = true ∧ s.clock.saturated = false ∧ s.clock.tick < maxTick ∧
       passed (s.adjust s.clock.tick) (s.adjust (s.clock.tick + 1)) s = []) ∧
    (let s := withNotes (playingAt 0 40484 0) [tap 40000 []]
     s.powered = true ∧ s.clock.running = true ∧ s.clock.saturated = false ∧ s.station.state = .playing ∧ s.chords = [] ∧
       s.queue.entries = [tap 40000 []] ∧ s.adjust s.clock.tick < 40000 + s.judge.w + 5 ∧
       40000 + s.judge.w + 5 ≤ s.adjust (s.clock.tick + 1)) ∧
    (let s := withNotes (playingAt 0 40484 0) [tap 40000 []]
     let s := { s with chords := [record 39800 [1] none], station := { s.station with state := .lost, silence := none } }
     s.clock.tick < maxTick ∧ s.station.state = .lost ∧
       (passed (s.adjust s.clock.tick) (s.adjust (s.clock.tick + 1)) s).map Threshold.kind = [.lapse, .forced]) := by decide

/-- Two notes passed by one advance; and a hold end whose fall time is that of the grace expiry behind it, beside a forced close. -/
theorem witness_ThresholdsInOrder :
    (passed 29000 30000 (withNotes (playingAt 0 30000 0) [tap 29000 [], tap 29200 []])).length = 2 ∧
    (let s := withNotes (playingAt 3 70500 0) [{ hold 70000 500 [] with state := .slipping 70299 }]
     let s := { s with chords := [record 70055 [1] none] }
     let x : Threshold := ⟨70500, .holdEnd, 70000⟩
     s.powered = true ∧ s.station.state = .playing ∧ queueSound s = true ∧ x ∈ thresholds s ∧ x.fall ≤ s.adjClock ∧
       (∀ y ∈ thresholds s, y.due = x.due → y.kind ≠ .forced → x.le y = true) ∧
       (⟨70500 + 240, .forced, 70055⟩ : Threshold) ∈ thresholds s) := by decide

theorem witness_TimedEvents :
    (let s := playingAt 0 256 0
     let s := { s with clock := { s.clock with nextMark := some 256 } }
     s.powered = true ∧ s.clock.running = true ∧ s.clock.saturated = false ∧ s.clock.nextMark = some 256 ∧ 256 ≤ s.clock.tick) ∧
    ((playingAt 0 16777215 0).clock.running = true ∧ (playingAt 0 16777215 0).clock.tick = 16777215) ∧
    ((playingAt 0 9 0).station.state = .playing ∧ (playingAt 0 9 0).station.silence.isSome = true ∧
      (idleAt 0).station.state ≠ .playing) ∧
    (let l := fun steps : Nat => { (idleAt 0).lamp with flash := some ⟨Quad.fill 0, steps, 0⟩ }
     (l 2).flash = some ⟨Quad.fill 0, 2, 0⟩ ∧ (l 1).flash = some ⟨Quad.fill 0, 1, 0⟩) ∧
    ({ (idleAt 0).lamp with pattern := .faultStrap }.pattern = .faultStrap ∧ (idleAt 0).lamp.pattern ≠ .faultStrap) := by decide

/-- A clock one cell behind the target, at it, stopped, and ticks behind it with notes that lapse on the way. -/
theorem witness_MarkHeard :
    (let s := playingAt 1 25602 0
     let s := { s with clock := { s.clock with phase := 8 } }
     s.hears (.mark ⟨2, 25600⟩) = true ∧ s.clock.running = true ∧ s.clock.tick = 25602 ∧ s.clock.phase < 9) ∧
    (let s := playingAt 1 25602 0
     let s := { s with clock := { s.clock with phase := 9 } }
     s.hears (.mark ⟨2, 25600⟩) = true ∧ ¬(s.clock.tick < 25602 ∨ s.clock.tick = 25602 ∧ s.clock.phase < 9)) ∧
    ((idleAt 1).hears (.mark ⟨24, 16777215⟩) = true ∧ (idleAt 1).clock.running = false) ∧
    (let s := withNotes (playingAt 1 25601 0) [tap 25117 [], tap 25118 []]
     s.hears (.mark ⟨2, 25600⟩) = true ∧ s.clock.tick < 25602 ∧ s.station.state = .playing ∧
       (passed (s.adjust 25601) (s.adjust 25602) s).length = 1) := by decide

/-- The tick runs back at a START from a stopped clock. -/
theorem witness_ClockInvariant :
    let s := { idleAt 0 with
      clock := { (idleAt 0).clock with tick := 5000 }, pending := [.start (songStart 0 9) .whole] }
    clockSound s = true ∧ s.clock.tick ≤ maxTick ∧
      ∃ t, step s = .next t ∧ t.clock.tick < s.clock.tick := by
  refine ⟨by decide, by decide, _, rfl, ?_⟩
  decide

theorem witness_LapseTaken :
    let s := fun e => withNotes (playingAt 6 40485 0) [tap 39900 [], e]
    (s (tap 40000 [])).powered = true ∧ (s (tap 40000 [])).station.state = .playing ∧
    (s (tap 40000 [])).queue.entries = [tap 39900 []] ++ tap 40000 [] :: [] ∧ (∀ x ∈ [tap 39900 []], x.due ≠ 40000) ∧
    40000 + (s (tap 40000 [])).judge.w + 5 = (s (tap 40000 [])).adjClock ∧ (s (tap 40000 [])).hasRoomFor (tap 40000 []) = true ∧
    (s (hold 40000 300 [])).queue.entries = [tap 39900 []] ++ hold 40000 300 [] :: [] := by decide

/-- Hold end and grace expiry each at the first tick they may be taken, and a record's point just passed. -/
theorem witness_DueThresholdsTaken :
    (let s := withNotes (playingAt 3 70500 0) [{ hold 70000 500 [] with state := .slipping 70299 }]
     s.powered = true ∧ s.station.state = .playing ∧ 70000 + 500 = s.adjClock ∧ 70500 ≤ 70299 + s.judge.g + 1) ∧
    (let s := withNotes (playingAt 3 70499 0) [{ hold 70000 500 [] with state := .slipping 70298 }]
     70298 + s.judge.g + 1 = s.adjClock ∧ s.adjClock < 70000 + 500) ∧
    (let s := { playingAt 2 88685 0 with chords := [{ record 88000 [4, 6] (some .exact) with ownSent := true }] }
     s.chords = [] ++ { record 88000 [4, 6] (some .exact) with ownSent := true } :: [] ∧
       88000 + s.judge.w + 205 = s.adjClock) ∧ (record 88000 [4] none).ownSent = false := by decide

/-- A full table of keys 1..8, the record of key 1 with its forced close pending, and a chord TAP of key 9 about to lapse. -/
def fullTable (inFlight : Bool) : State :=
  let s := withNotes (playingAt 0 500 0) [tap 9 [1]]
  let s := { s with
    judge := { s.judge with w := 480 }
    chords := { record 1 [1] (some .exact) with ownSent := true, forcedPending := true } ::
      [2, 3, 4, 5, 6, 7, 8].map fun k => record k [1] none
    reports := [⟨.forced, 1⟩] }
  if inFlight then flying s .sending (judgeFrame 64 .forced ⟨.forced, 1⟩ (.grade .miss) none) else s

theorem witness_FullTableEvicts :
    let r : ChordRecord := { record 1 [1] (some .exact) with ownSent := true, forcedPending := true }
    (fullTable false).powered = true ∧ (fullTable false).station.state = .playing ∧
    (fullTable false).queue.entries = [] ++ tap 9 [1] :: [] ∧ 9 + (fullTable false).judge.w + 5 ≤ (fullTable false).adjClock ∧
    (fullTable false).chords.length = 8 ∧ (∀ x ∈ (fullTable false).chords, x.key ≠ 9) ∧ r ∈ (fullTable false).chords ∧
    (∀ x ∈ (fullTable false).chords, r.key ≤ x.key) ∧ (∀ x ∈ (fullTable false).chords, x.key = r.key → x = r) ∧
    forcedInFlight 1 (fullTable false) = false ∧ forcedInFlight 1 (fullTable true) = true ∧
    (let s := fun e => feeling (withNotes (fullTable false) [e]) (.pressing 489) 600
     (s (tap 9 [1])).sense.sampleTimer.isSome = true ∧ (s (tap 9 [1])).sense.samples ≠ 0 ∧
       (s (tap 9 [1])).settings.working.effectivePress ≤ loadAfterStage1 pressing (s (tap 9 [1])) ∧
       (∀ x ∈ (s (tap 9 [1])).queue.entries, x.state.isSlipping = false) ∧
       (∀ i : Fin 4, (pressing.get i).toNat = ((s (tap 9 [1])).sense.zones.get i).raw) ∧
       tickDistance ((s (tap 9 [1])).adjust 489) 9 = (s (tap 9 [1])).judge.w ∧ (s (hold 9 491 [1])).adjClock = 9 + 491 ∧
       (s (hold 9 492 [1])).adjClock < 9 + 492) := by decide

/-- Worked case 6.9.2, line 4: score and gauge at their limits, the combo already there. -/
theorem witness_TallyArithmetic :
    newTallies 10000 (.grade .exact) ⟨99995000, 65535, 65535, 996⟩ = ⟨99999999, 65535, 65535, 1000⟩ ∧
      newTallies 500 (.grade .miss) ⟨80000, 12, 30, 30⟩ = ⟨80000, 0, 30, 0⟩ ∧ 65535 ≤ 65535 := by decide

/-- Station 3 of worked case 6.9.1 with its closing frame latched; a member report that ends at its forced-close point; and a chord
closed with its forced close pending. -/
theorem witness_JudgeFrameEnds :
    let s := after .payloadLatch secondFoot
    let p : Replica := ⟨46000, 42, 42, 608⟩
    s.powered = true ∧ s.line.state = .sending ∧ s.reports = ⟨.tap, 40000⟩ :: [] ∧
    (s.line.inFlight.map fun f => (f.source, f.mismatch, f.latched.map Latched.content)) =
      some (.report, false, some (.judge ⟨⟨.tap, 40000⟩, .closingChord, .grade .tight, some p, false⟩)) ∧
    JudgeForm.closes .closingChord = true ∧ p.gauge ≠ 0 ∧ s.adjClock < 40000 + s.judge.w + 205 ∧
    (let late := { playingAt 2 88685 0 with chords := [record 88000 [4, 6] (some .exact)] }
     late.station.state = .playing ∧ 88000 + late.judge.w + 205 = late.adjClock ∧
       (findRecord 88000 late).any (fun r => !r.forcedPending) = true ∧ JudgeForm.closes .member = false) ∧
    (findRecord 1 (fullTable false)).any (fun r => r.forcedPending) = true := by decide

theorem witness_JudgeFrameFails :
    let p : Replica := ⟨0, 0, 0, 0⟩
    let f := judgeFrame 67 .closingSingle ⟨.tap, 40000⟩ (.grade .miss) (some p)
    let s := flying (playingAt 3 40500 0) .sending f
    s.powered = true ∧ s.line.state = .sending ∧ s.line.inFlight = some f ∧ f.source = .report ∧ f.mismatch = false ∧
    f.latched = some ⟨.judge ⟨⟨.tap, 40000⟩, .closingSingle, .grade .miss, some p, false⟩, []⟩ ∧
    JudgeForm.closes .closingSingle = true ∧ p.gauge = 0 ∧ s.tally.failureEnabled = true ∧ s.station.state = .playing := by decide

theorem witness_TallyInvariant : tallySound (after .payloadLatch secondFoot) = true := by decide

/-- The cases of a member report: a record that expects the sender and one that does not, none but an entry that may open one, one
chord-closed or reported, a full table, and no concern. -/
theorem witness_MemberReportHeard :
    let f := headReport 17 64000 .tight 65
    let first := withNotes (playingAt 5 63000 0) [tap 64000 [17]]
    jump.hears (.member f) = true ∧ jump.station.state = .playing ∧ jump.chords = [] ++ record 64000 [17] (some .exact) :: [] ∧
    first.hears (.member f) = true ∧ (∀ x ∈ first.chords, x.key ≠ 64000) ∧ first.queue.entries = [] ++ tap 64000 [17] :: [] ∧
    first.chords.length < 8 ∧ (fullTable false).hears (.member f) = true ∧
    (∀ x ∈ (fullTable false).chords, x.key ≠ 64000) ∧ 8 ≤ (fullTable false).chords.length ∧
    (playingAt 5 63000 0).hears (.member f) = true ∧ (∀ e ∈ (playingAt 5 63000 0).queue.entries, e.due = 64000 → 17 ∉ e.partners) ∧
    (idleAt 5).hears (.member f) = true ∧ (idleAt 5).station.state ≠ .playing ∧
    (headReport 16 64000 .tight 65).sender.toNat ∉ (record 64000 [17] (some .exact)).expected ∧
    { tap 64000 [17] with chordClosed := true }.chordClosed = true ∧
    ({ hold 64000 9 [17] with headSent := true }.kind ≠ .tap ∧ { hold 64000 9 [17] with headSent := true }.headSent = true) := by decide

/-- A gauge of 1 does not fail; a sender of the other player may carry 0; one of this player's that carries 0 fails the station in
PLAYING; and DONE and IDLE. -/
theorem witness_ClosureHeard :
    jump.hears (.closure (.head (headReport 17 64000 .tight 65) ⟨750, 1, 1⟩)) = true ∧ jump.station.state = .playing ∧
    jump.hears (.closure (.forced 3 64000 ⟨0, 0, 0⟩)) = true ∧
    ¬(jump.tally.doubles = true ∨ ((3 : BitVec 5).toNat < 16 ↔ jump.straps.pad = false)) ∧
    (jump.hears (.closure (.forced 17 64000 ⟨0, 0, 0⟩)) = true ∧ jump.tally.failureEnabled = true ∧
      ((17 : BitVec 5).toNat < 16 ↔ jump.straps.pad = false)) ∧
    (let s := { jump with station := { jump.station with state := .done } }
     s.hears (.closure (.forced 17 64000 ⟨0, 0, 0⟩)) = true ∧ s.station.state = .done) ∧
    ((idleAt 5).hears (.closure (.forced 17 64000 ⟨0, 0, 0⟩)) = true ∧ (idleAt 5).station.state = .idle) := by decide

theorem witness_TailFrameHeard :
    let f := fun gauge => (⟨3, 40000, .ng, ⟨0, 0, gauge⟩⟩ : TailFrame)
    (idleAt 0).hears (.tail (f 0)) = true ∧ (idleAt 0).station.state = .idle ∧
    (let s := { playingAt 0 5 0 with station := { (playingAt 0 5 0).station with state := .done } }
     s.hears (.tail (f 0)) = true ∧ s.station.state = .done ∧ s.straps.pad = false) ∧
    ((playingAt 0 5 0).hears (.tail (f 1)) = true ∧ (playingAt 0 5 0).station.state = .playing) ∧
    ((playingAt 0 5 0).hears (.tail (f 0)) = true ∧ (playingAt 0 5 0).tally.failureEnabled = true) := by decide

theorem witness_OrphanAndStatusHeard :
    jump.hears (.orphan (headReport 17 64000 .tight (-800))) = true ∧
    jump.hears (.status ⟨17, 3, List.replicate 10 0⟩) = true ∧
    { jump.station with state := .lost }.state = .lost ∧ jump.station.state = .playing ∧ (idleAt 0).station.state ≠ .lost := by decide

/-- Station 21 of worked case 5.9.1 is sound in all its blocks, with an item, a record and a judged entry. -/
theorem witness_ChordInvariant :
    chordsSound (fullTable false) = true ∧ reportsConfined (fullTable false) = true ∧ jump.sound = true ∧ jump.reports = [⟨.tap, 64000⟩] := by
  decide

theorem witness_MalformedNotes :
    (NoteFrame.mk 4 0 2 0 []).lengthOk = true ∧ (NoteFrame.mk 4 0 0 4 []).lengthOk = true ∧
    (NoteFrame.mk 4 0 1 0 [0, 0]).lengthOk = true ∧ (NoteFrame.mk 4 0 0 1 [9]).lengthOk = true ∧
    noteEntry 4 (NoteFrame.mk 4 0 0 3 [8, 16, 24]) = some (tap 0 [8, 16, 24]) := by decide

/-- A queue of 31 and a note at the stale limit and the end time. -/
theorem witness_NoteAccepted :
    let s := withNotes (playingAt 4 20000 0) ((List.range 31).map fun k => tap (30000 + k) [])
    let s := { s with station := { s.station with endTime := 19516 } }
    let e := tap 19516 []
    s.hears (.note ⟨4, 19516, 0, 0, []⟩) = true ∧ queueSound s = true ∧ (4 : Byte).toNat = s.address ∧ s.settings.job = none ∧
    s.station.state = .playing ∧ noteEntry s.address ⟨4, 19516, 0, 0, []⟩ = some e ∧ s.adjClock = e.due + s.judge.w + 4 ∧
    e.due ≤ s.station.endTime ∧ (∀ x ∈ s.queue.entries, x.due ≠ e.due ∧ overlap e x = false) ∧ s.queue.entries.length < 32 := by
  decide +kernel

/-- Each refusal: another target, a busy store, and the six reasons. -/
theorem witness_NoteRefused :
    let f := fun due => (⟨4, due, 0, 0, []⟩ : NoteFrame)
    let s := withNotes (playingAt 4 20000 0) [hold 20100 50 []]
    let full := withNotes (playingAt 4 20000 0) ((List.range 32).map fun k => tap (30000 + k) [])
    s.hears (.note ⟨5, 1, 0, 0, []⟩) = true ∧ (5 : Byte).toNat ≠ s.address ∧ (storing s).settings.job ≠ none ∧
    { s.station with state := .done }.state = .done ∧ noteEntry 4 ⟨4, 1, 2, 0, []⟩ = none ∧
    s.hears (.note (f 19515)) = true ∧ 19515 + s.judge.w + 4 < s.adjClock ∧
    (∃ x ∈ s.queue.entries, x.due = 20100) ∧ (∃ x ∈ s.queue.entries, overlap (tap 20150 []) x = true) ∧
    (∀ x ∈ full.queue.entries, x.due ≠ 29999 ∧ overlap (tap 29999 []) x = false) ∧ 32 ≤ full.queue.entries.length ∧
    full.queue.pendingInsertion = none ∧ full.hears (.note (f 29999)) = true := by decide +kernel

theorem witness_QueueInvariant :
    let s := feeling (withNotes (playingAt 7 50600 0) [{ hold 50300 400 [] with state := .holding }, tap 50800 []]) .pressed 600
    queueSound s = true ∧ lineSound s = true ∧ waitingSound s = true ∧ holdsSound s = true ∧ jump.sound = true := by decide

/-- 7.6.1: windows that pass through unchanged, at their limits, and a START one tick long. -/
theorem witness_WindowClamp :
    4 ≤ 4 * (1 : Byte).toNat ∧ 4 * (1 : Byte).toNat + 4 ≤ 4 * (2 : Byte).toNat ∧ 4 * (2 : Byte).toNat + 4 ≤ 4 * (199 : Byte).toNat ∧
    4 * (199 : Byte).toNat + 4 ≤ 4 * (200 : Byte).toNat ∧ 4 * (200 : Byte).toNat ≤ 800 ∧
    (idleAt 4).hears (.start (songStart 9 10)) = true ∧ (idleAt 4).station.state = .idle ∧ (9 : BitVec 24).toNat < (10 : BitVec 24).toNat := by
  decide

theorem witness_StartHeard :
    (idleAt 4).hears (.start (songStart 9 9)) = true ∧ (9 : BitVec 24).toNat ≤ (9 : BitVec 24).toNat ∧
    (idleAt 4).hears (.start (songStart 9 10)) = true ∧ (idleAt 4).station.state = .idle ∧
    (playingAt 4 5 0).hears (.start (songStart 9 10)) = true ∧ (playingAt 4 5 0).station.state ≠ .idle := by decide

theorem witness_StopHeard :
    (idleAt 4).hears .stop = true ∧ (playingAt 4 5 0).hears .stop = true ∧
    (let s := { playingAt 4 5 0 with station := { (playingAt 4 5 0).station with state := .failed } }
     s.hears .stop = true ∧ queueSound s = true ∧ s.station.state = .failed) := by decide

theorem witness_StationInvariant :
    stationSound (playingAt 4 5 0) = true ∧ decisionSound (after (.stop .ackCell) (playingAt 4 5 0)) = true ∧
    stationSound (after (.stop .ackCell) (playingAt 4 5 0)) = true := by decide

theorem witness_WriteHeard :
    let w := fun field => Frame.write ⟨4, field, 65535⟩
    (idleAt 4).hears (w 0) = true ∧ (idleAt 4).hears (w 1) = true ∧ (idleAt 4).hears (w 2) = true ∧ (idleAt 4).hears (w 3) = true ∧
    (idleAt 4).hears (w 7) = true ∧ (idleAt 4).hears (w 8) = true ∧ (4 : Byte).toNat = (idleAt 4).address ∧
    (idleAt 4).settings.job = none ∧ (idleAt 4).station.state = .idle ∧
    (playingAt 4 5 0).hears (w 0) = true ∧ (playingAt 4 5 0).station.state ≠ .idle := by decide

theorem witness_StoreRestartQueryHeard :
    (idleAt 4).hears (.store 4) = true ∧ (idleAt 4).hears (.restart 4) = true ∧ (idleAt 4).hears (.query ⟨4, 3⟩) = true ∧
    (4 : Byte).toNat = (idleAt 4).address ∧ (idleAt 4).settings.job = none ∧ (idleAt 4).station.state = .idle ∧
    (idleAt 5).hears (.store 4) = true ∧ (4 : Byte).toNat ≠ (idleAt 5).address ∧ (storing (idleAt 4)).hears (.restart 4) = true ∧
    (storing (idleAt 4)).settings.job ≠ none ∧ (idleAt 5).hears (.query ⟨4, 0⟩) = true := by decide

theorem witness_AcknowledgeDecided :
    (Instr.mark ⟨2, 0⟩ .whole).frame = some (.mark ⟨2, 0⟩) ∧ (idleAt 4).hears (.mark ⟨2, 0⟩) = true ∧
    (Instr.note ⟨4, 9, 0, 0, []⟩ .whole).frame = some (.note ⟨4, 9, 0, 0, []⟩) ∧ (idleAt 4).hears (.note ⟨4, 9, 0, 0, []⟩) = true ∧
    (Instr.stop .whole).frame = some .stop ∧ (idleAt 4).hears .stop = true := by decide

theorem witness_DuplicateAddressFaults :
    ((Instr.mark ⟨4, 0⟩ .whole).frame = some (.mark ⟨4, 0⟩) ∧ (idleAt 4).powered = true ∧
      (idleAt 4).station.state.examines = true ∧ (idleAt 4).line.mayFollow = true ∧ (Frame.mark ⟨4, 0⟩).wellFormed = true ∧
      (Frame.mark ⟨4, 0⟩).sender = some (idleAt 4).headerAddress) ∧
    (let f := judgeFrame 67 .closingSingle ⟨.tap, 40000⟩ (.grade .miss) none
     let s := flying (playingAt 3 40500 0) .sending f
     s.powered = true ∧ s.line.state = .sending ∧ s.line.inFlight = some f ∧ f.latched.isSome = true ∧ f.source = .report) ∧
    (let f := fun source content => (⟨source, 2, 25600, some ⟨content, []⟩, true⟩ : InFlight)
     let s := fun f => flying (playingAt 2 25602 0) .sending f
     (s (f .mark .mark)).line.inFlight = some (f .mark .mark) ∧ (f .mark .mark).mismatch = true ∧
       (s (f .status .status)).line.inFlight = some (f .status .status) ∧ (⟨true, true⟩ : OwnEnd).mismatch = true) := by
  decide

/-- Each source with the gap just passed: a MARK at a tick boundary, a report after an own frame, a STATUS. Another's start edge at a
station with nothing to send, its gap not passed, between frames, and in LINE_BREAK. -/
theorem witness_FrameStarts :
    (let s := playingAt 3 256 0
     let s := { s with clock := { s.clock with markPending := true }, line := { s.line with highCount := 10 } }
     s.powered = true ∧ s.station.state.examines = true ∧ s.line.state = .lineFree ∧ 10 ≤ min 16 (max s.line.highCount 0) ∧
       s.clock.running = true ∧ s.clock.saturated = false ∧ s.clock.phase = 0) ∧
    (let s := { playingAt 3 256 0 with reports := [⟨.tap, 9⟩] }
     let s := { s with line := { s.line with lastSender := true } }
     16 ≤ min 16 (max s.line.highCount 16) ∧ s.clock.markPending = false ∧ s.reports ≠ []) ∧
    (let s := { idleAt 3 with line := { (idleAt 3).line with statusSlot := some 0 } }
     s.line.lastSender = false ∧ s.reports = [] ∧ s.line.statusSlot ≠ none) ∧
    (∀ h ∈ [(67 : Byte), 81], (67 : Byte).toNat ≤ h.toNat) ∧ (66 : Byte).toNat < (67 : Byte).toNat ∧
    (let s := idleAt 3
     ¬(s.clock.markPending = true ∨ s.reports ≠ [] ∨ s.line.statusSlot ≠ none) ∧ s.powered = true ∧ s.station.state ≠ .startup ∧
       s.line.state = .lineFree ∧ s.line.assembly = none ∧ s.line.decision = none ∧ s.line.inFlight = none ∧
       { s.line with state := .receiving, highCount := 9 }.state = .receiving ∧
       ¬(10 ≤ min 16 (max { s.line with state := .receiving, highCount := 9 }.highCount 0)) ∧
       { s.line with state := .lineBreak }.state = .lineBreak) ∧
    (⟨0, false, false, []⟩ : StartInstant).inputHigh = false := by decide

theorem witness_PayloadLatched :
    (let s := flying (playingAt 3 256 0) .contending ⟨.mark, 3, 256, none, false⟩
     s.powered = true ∧ s.line.state = .contending ∧ s.line.inFlight = some ⟨.mark, 3, 256, none, false⟩) ∧
    { (idleAt 3).line with statusSlot := some 3 }.statusSlot = some (3 : Fin 4) ∧
    (let e : NoteEntry := { tap 40000 [] with state := .judged, head := some (.struck 98 .tight) }
     let s := { withNotes (playingAt 3 40100 0) [e] with reports := [⟨.tap, 40000⟩] }
     s.reports = ⟨.tap, e.due⟩ :: [] ∧ s.queue.entries = [] ++ e :: [] ∧ e.partners = [] ∧ e.head = some (.struck 98 .tight)) ∧
    (fullTable false).reports = ⟨.forced, 1⟩ :: [] ∧
    (let e : NoteEntry := { hold 40000 40 [] with state := .judged, head := some .lapse, tail := some .ng }
     let s := { withNotes (playingAt 3 40500 0) [e] with reports := [⟨.tail, 40000⟩] }
     s.reports = ⟨.tail, e.due⟩ :: [] ∧ s.queue.entries = [] ++ e :: [] ∧ e.tail = some .ng ∧ e.head = some .lapse) ∧
    (closingDecision { tap 40000 [0] with chordClosed := true } .tight secondFoot = (.orphan, .tight) ∧
      closingDecision (tap 40000 [0]) .tight secondFoot = (.closingChord, .tight) ∧
      closingDecision (tap 64000 [17]) .exact jump = (.member, .exact)) := by decide

/-- A record with every report and one short of them; a chord-closed entry; an entry with no record. -/
theorem witness_ClosingDecided :
    let e := tap 40000 [0]
    (tap 40000 []).partners = [] ∧ e.partners ≠ [] ∧ { e with chordClosed := true }.chordClosed = true ∧
    findRecord 40000 secondFoot = some { record 40000 [0] (some .tight) with reports := [(0, .exact)] } ∧
    (∀ a ∈ [0], ∃ g, (a, g) ∈ [((0 : Nat), Grade.exact)]) ∧ (∃ a ∈ [17], ∀ g, (a, g) ∉ (record 64000 [17] (some .exact)).reports) ∧
    findRecord 64000 jump = some (record 64000 [17] (some .exact)) ∧ findRecord 40000 jump = none := by
  refine ⟨by decide, by decide, by decide, by decide, ?_, ?_, by decide, by decide⟩
  · simp
  · simp [record]

theorem witness_MarkAndStatusSent :
    let f := fun source content => (⟨source, 2, 25600, some ⟨content, []⟩, false⟩ : InFlight)
    let s := fun f => flying (playingAt 2 16776960 0) .sending f
    (s (f .mark .mark)).powered = true ∧ (s (f .mark .mark)).line.state = .sending ∧
    (s (f .mark .mark)).line.inFlight = some (f .mark .mark) ∧ (f .mark .mark).latched = some ⟨.mark, []⟩ ∧
    (f .mark .mark).mismatch = false ∧ (s (f .status .status)).line.inFlight = some (f .status .status) := by decide

/-- Each line event where it may fall, and a frame that fails test 1. -/
theorem witness_LineEvents :
    (let l := { (idleAt 2).line with state := .lineBreak, highCount := 0 }
     l.assembly = none ∧ l.decision = none ∧ l.inFlight = none) ∧ (idleAt 2).line.state = .lineFree ∧
    ((beginAssembly (idleAt 2)).line.state = .receiving ∧ (beginAssembly (idleAt 2)).line.assembly = some ⟨[], 0⟩ ∧
      (beginAssembly (idleAt 2)).line.decision = none) ∧
    (idleAt 2).powered = true ∧ (idleAt 2).station.state ≠ .startup ∧ (idleAt 2).line.state ≠ .lineBreak ∧
    (evictedKey (idleAt 2)).isSome = false ∧
    readFrame ⟨3, 3, [0, 0, 0], 0⟩ = .error .crc ∧ (idleAt 2).station.state.examines = true ∧ (idleAt 2).line.mayFollow = true := by
  decide +kernel

theorem witness_FramesReadBack :
    (Frame.closure (.head (headReport 24 16777215 .miss (-800)) ⟨99999999, 65535, 1000⟩)).wellFormed = true ∧
    (Frame.note ⟨4, 9, 15, 15, [1, 2, 3, 4, 5]⟩).wellFormed = true ∧ (Frame.mark ⟨0, 0⟩).wellFormed = true ∧
    (Frame.query ⟨4, 3⟩).wellFormed = true ∧ (Frame.write ⟨4, 11, 0⟩).wellFormed = true := by decide

theorem witness_OneBitErrorFound : 0 < [true].length ∧ (3 : Byte) = (Frame.mark ⟨2, 0⟩).wire.header ^^^ (1#8 <<< (0 : Fin 8).val) := by
  decide

theorem witness_LampHeard :
    let f := fun targets => (⟨targets, .press, ⟨0, 2048, 4095, 0⟩⟩ : LampFrame)
    (idleAt 4).hears (.lamp (f 0x1FF) false) = true ∧ (f 0x1FF).targets.getLsbD (idleAt 4).address = true ∧
    (f 0x1FF).targets.getLsbD 9 = false ∧ (idleAt 4).hears (.lamp (f 0) true) = true ∧ (f 0).targets.getLsbD (idleAt 4).address = false := by
  decide

/-- Duties of 63 and 64, run counts of 6 and 7. -/
theorem witness_PwmPeriods :
    let c := fun run duty : Nat => (⟨false, run, false, duty⟩ : Channel)
    (idleAt 2).powered = true ∧ (c 0 63).duty < 64 ∧ 64 ≤ (c 6 64).duty ∧ (c 6 64).runCount < 7 ∧ 7 ≤ (c 7 64).runCount ∧
    (false = (c 7 64).openFlag) ∧ ¬(true = (c 7 64).openFlag) ∧
    ({ (idleAt 2).lamp with channels := Quad.fill (c 8 64) }.channels.get 0).runCount = 8 := by decide

theorem witness_LampsComposed :
    let s := fun pattern timer => { idleAt 2 with lamp := { (idleAt 2).lamp with pattern := pattern, patternTimer := timer } }
    (s .faultDuplicate 19999).lamp.patternTimer < 20000 ∧ 20000 ≤ (s .faultDuplicate 20000).lamp.patternTimer ∧
    (s .faultStrap 0).lamp.pattern = .faultStrap ∧ (s .lost 0).lamp.pattern = .lost ∧ (s .failed 0).lamp.pattern = .failed ∧
    (s .noPattern 0).lamp.pattern = .noPattern ∧
    { (idleAt 2).lamp with flash := some ⟨flashColour (.grade .tight), 16, 0⟩ }.flash = some ⟨flashColour (.grade .tight), 16, 0⟩ ∧
    (idleAt 2).lamp.flash = none ∧ (idleAt 2).sense.detector = .released := by decide

theorem witness_RangeInvariant :
    let s := playingAt 2 100 0
    settingsSound s = true ∧ lampSound s = true ∧ senseSound s = true ∧ windowsSound s.judge = true := by decide

end Sys2Proof.Tests
end

