-- ==== Sys2Proof/Proofs/NoteQueue.lean ====
section
/-! PROOFS. The Note Queue: when a NOTE is malformed (R39), and what STOP leaves (R47). -/

namespace Sys2Proof.Machine

/-! ### The tests of R39 on the fields of a NOTE -/

theorem validStation_iff (a : Nat) : validStation a = true ↔ a ≤ 8 ∨ 16 ≤ a ∧ a ≤ 24 := by
  simp [validStation]

theorem distinct_iff_nodup (l : List Nat) : distinct l = true ↔ l.Nodup := by
  induction l with
  | nil => simp [distinct]
  | cons a as ih => simp [distinct, ih]

theorem validPartners_iff (own : Nat) (ps : List Nat) :
    validPartners own ps = true ↔ (∀ a ∈ ps, a ≤ 8 ∨ 16 ≤ a ∧ a ≤ 24) ∧ own ∉ ps ∧ ps.Nodup := by
  simp only [validPartners, Bool.and_eq_true, List.all_eq_true, bne_iff_ne, validStation_iff, distinct_iff_nodup,
    forall₂_and, and_assoc, ← List.forall_mem_ne']

/-- The two bytes of a hold length spell 0 only as two zero bytes (R154). -/
theorem holdLength_eq_zero_iff (high low : Byte) : (high ++ low : BitVec 16).toNat = 0 ↔ high = 0 ∧ low = 0 := by
  have value : (high ++ low : BitVec 16).toNat = 2 ^ 8 * high.toNat + low.toNat := by
    rw [BitVec.toNat_append, Nat.shiftLeft_eq, Nat.mul_comm, ← Nat.two_pow_add_eq_or_of_lt low.isLt]
  rw [value]
  constructor
  · intro h
    exact ⟨BitVec.eq_of_toNat_eq (by simp; omega), BitVec.eq_of_toNat_eq (by simp; omega)⟩
  · rintro ⟨rfl, rfl⟩
    rfl

/-! ### The layouts a NOTE can have (R154) -/

theorem NoteFrame.length_of_lengthOk {f : NoteFrame} (fits : f.lengthOk = true) (kind : f.kind.toNat ≤ 1)
    (count : f.count.toNat ≤ 3) : f.body.length = f.count.toNat + 2 * f.kind.toNat := by
  simpa [NoteFrame.lengthOk, kind, count] using fits

theorem noteFields_none_of_count {f : NoteFrame} (count : 3 < f.count.toNat) : noteFields f = none := by
  simp [noteFields, count]

theorem noteFields_none_of_kind {f : NoteFrame} (kind : 1 < f.kind.toNat) : noteFields f = none := by
  unfold noteFields
  split
  · rfl
  · split
    · omega
    · omega
    · rfl

theorem noteFields_tap {f : NoteFrame} (count : f.count.toNat ≤ 3) (kind : f.kind.toNat = 0) :
    noteFields f = some (.tap, f.body.map BitVec.toNat) := by
  simp [noteFields, kind, Nat.not_lt.mpr count]

theorem noteFields_hold {f : NoteFrame} {high low : Byte} {partners : List Byte} (count : f.count.toNat ≤ 3)
    (kind : f.kind.toNat = 1) (body : f.body = high :: low :: partners) :
    noteFields f = some (.hold (high ++ low : BitVec 16).toNat, partners.map BitVec.toNat) := by
  simp [noteFields, kind, body, Nat.not_lt.mpr count]

/-! ### The entry a NOTE makes -/

theorem noteEntry_none_of_fields {f : NoteFrame} (own : Nat) (fields : noteFields f = none) : noteEntry own f = none := by
  simp [noteEntry, fields]

/-- A NOTE of a known layout makes no entry just when its hold length or its partners fail. -/
theorem noteEntry_none_iff {f : NoteFrame} {kind : NoteKind} {partners : List Nat} (own : Nat)
    (fields : noteFields f = some (kind, partners)) :
    noteEntry own f = none ↔ kind.lengthOk = false ∨
      (∃ a ∈ partners, ¬(a ≤ 8 ∨ 16 ≤ a ∧ a ≤ 24)) ∨ own ∈ partners ∨ ¬partners.Nodup := by
  have invalid : (∃ a ∈ partners, ¬(a ≤ 8 ∨ 16 ≤ a ∧ a ≤ 24)) ∨ own ∈ partners ∨ ¬partners.Nodup ↔
      validPartners own partners = false := by
    rw [← Bool.not_eq_true, validPartners_iff, not_and_or, not_and_or, not_not]
    push Not
    rfl
  rw [invalid]
  simp [noteEntry, fields, Bool.and_eq_true, imp_iff_not_or]

end Sys2Proof.Machine

namespace Sys2Proof.Proofs

open Sys2Proof.Machine

/-- Settles O37, layout by layout: with more than 3 partners or an unknown kind there are no fields; a TAP has partners
alone; a HOLD whose length fits has its two length bytes before them. -/
theorem malformedNotes : Obligations.MalformedNotes := by
  intro own f fits
  rcases Nat.lt_or_ge 3 f.count.toNat with many | count
  · simp [noteEntry_none_of_fields own (noteFields_none_of_count many), many]
  rcases Nat.lt_or_ge 1 f.kind.toNat with unknown | known
  · simp [noteEntry_none_of_fields own (noteFields_none_of_kind unknown), unknown]
  have length := NoteFrame.length_of_lengthOk fits known count
  obtain tap | hold : f.kind.toNat = 0 ∨ f.kind.toNat = 1 := by omega
  · rw [noteEntry_none_iff own (noteFields_tap count tap)]
    simp [tap, Nat.not_lt.mpr count, NoteKind.lengthOk]
  · obtain ⟨high, low, partners, body⟩ : ∃ high low partners, f.body = high :: low :: partners := by
      match h : f.body with
      | [] | [_] => simp [h, hold] at length
      | high :: low :: partners => exact ⟨high, low, partners, rfl⟩
    have zero : (NoteKind.hold (high ++ low : BitVec 16).toNat).lengthOk = false ↔ f.body.take 2 = [0, 0] := by
      simp [NoteKind.lengthOk, holdLength_eq_zero_iff, body]
    rw [noteEntry_none_iff own (noteFields_hold count hold body), zero]
    simp [hold, body, Nat.not_lt.mpr count]

end Sys2Proof.Proofs

namespace Sys2Proof.Machine

/-! ### STOP -/

theorem exec_stop_eq (p : FramePoint) (s : State) : exec (.stop p) s = execStop p s := rfl

/-- An accepted STOP, block by block (R23, R47, R89, R122). -/
theorem takeStop_eq (s : State) :
    takeStop s = { s with
      station := { s.station with state := .idle, silence := none }
      clock := { s.clock with running := false, markPending := false }
      queue := { s.queue with entries := [], pendingInsertion := none }
      chords := [], reports := []
      lamp := { s.lamp with flash := none, pattern := .noPattern } } := rfl

/-- A STOP heard is accepted, and Station Control, then in IDLE, makes nothing of being told of it (R117, R119, R122). -/
theorem exec_stop_whole (s : State) (h : s.hears .stop = true) :
    exec (.stop .whole) s = .next (takeStop (atEndOfFrame .stop s)) := by
  obtain ⟨powered, examines, -⟩ := (s.hears_iff .stop).mp h
  have accepted : (decisionOf false .stop s).accepted = true := examines
  have idle (t : State) : heardFrame (takeStop t) = takeStop t := rfl
  rw [exec_stop_eq, execStop, whenPowered_eq s _ powered, receive_whole .stop _ s h, ifAccepted, if_pos accepted, idle]

/-- A sound queue holds nothing in a state that takes no notes (R49). -/
theorem queue_empty_of_sound {s : State} (sound : queueSound s = true) (state : s.station.state.takesNotes = false) :
    s.queue.entries = [] ∧ s.queue.pendingInsertion = none := by
  simp only [queueSound, Bool.and_eq_true] at sound
  obtain ⟨⟨⟨-, confined⟩, -⟩, -⟩ := sound
  simpa [implies, StationState.holdsNotes, state] using confined

end Sys2Proof.Machine

namespace Sys2Proof.Proofs

open Sys2Proof.Machine

/-- Settles O43: the effect of STOP on the station at its end-of-frame, and the confinement of a sound queue. -/
theorem stopHeard : Obligations.StopHeard := by
  refine ⟨fun s h => ?_, fun s sound state => queue_empty_of_sound sound ?_⟩
  · rw [exec_stop_whole s h, takeStop_eq]
    simp [atEndOfFrame, State.setQueue, State.setLine]
  · obtain failed | done := state
    · rw [failed]; rfl
    · rw [done]; rfl

end Sys2Proof.Proofs
end

namespace Sys2Proof.Machine

/-! ### The tallies of a closing frame (R98, R99) -/

theorem weight_le (r : JudgeResult) : weight r ≤ 16 := by
  rcases r with (_ | _ | _ | _ | _) | (_ | _) <;> decide

/-- No weight is above sixteen sixteenths, so no closing frame is worth more than the note value. -/
theorem points_le_noteValue (v : Nat) (r : JudgeResult) : points v r ≤ v :=
  calc v * weight r / 16 ≤ v * 16 / 16 := Nat.div_le_div_right (Nat.mul_le_mul_left v (weight_le r))
    _ = v := Nat.mul_div_cancel v (by decide)

theorem countUp_eq (n : Nat) : countUp n = if n < 65535 then n + 1 else 65535 := by
  simp only [countUp, maxCount]
  split <;> omega

/-- A grade that keeps a combo alive takes it one up, to its limit. -/
theorem comboAfter_hit {g : Grade} (hit : g = .exact ∨ g = .tight ∨ g = .near) (combo : Nat) :
    comboAfter (.grade g) combo = if combo < 65535 then combo + 1 else 65535 := by
  rw [← countUp_eq]
  rcases hit with rfl | rfl | rfl <;> rfl

/-- R99's two limits of the gauge: 0 below, before the change is read as a natural number, and `maxGauge` above. -/
theorem gaugeAfter_eq (r : JudgeResult) (gauge : Nat) :
    gaugeAfter r gauge = if (gauge : Int) + gaugeChange r < 0 then 0
      else if 1000 < (gauge : Int) + gaugeChange r then 1000 else ((gauge : Int) + gaugeChange r).toNat := by
  simp only [gaugeAfter, maxGauge]
  split
  · omega
  · split <;> omega

theorem newTallies_eq (v : Nat) {r : JudgeResult} {p : Replica} {combo : Nat} (after : comboAfter r p.combo = combo) :
    newTallies v r p =
      { score := if 99999999 < p.score + v * weight r / 16 then 99999999 else p.score + v * weight r / 16
        combo := combo, maxCombo := max p.maxCombo combo
        gauge := if (p.gauge : Int) + gaugeChange r < 0 then 0
          else if 1000 < (p.gauge : Int) + gaugeChange r then 1000
          else ((p.gauge : Int) + gaugeChange r).toNat } := by
  have score : min maxScore (p.score + points v r) =
      if 99999999 < p.score + v * weight r / 16 then 99999999 else p.score + v * weight r / 16 := by
    simp only [maxScore, points]
    split <;> omega
  rw [newTallies, score, after, gaugeAfter_eq]

end Sys2Proof.Machine

namespace Sys2Proof.Proofs

open Sys2Proof.Machine

/-- Settles O28: the equation of the new tallies at each grade and result, with its combo one up, 0 or kept; the points
are bounded by the note value itself. -/
theorem tallyArithmetic : Obligations.TallyArithmetic := by
  intro v p after up
  have exact : after (.grade .exact) 16 10 up := newTallies_eq v (comboAfter_hit (.inl rfl) p.combo)
  have tight : after (.grade .tight) 12 8 up := newTallies_eq v (comboAfter_hit (.inr (.inl rfl)) p.combo)
  have near : after (.grade .near) 6 2 up := newTallies_eq v (comboAfter_hit (.inr (.inr rfl)) p.combo)
  have wide : after (.grade .wide) 1 (-10) 0 := newTallies_eq v rfl
  have miss : after (.grade .miss) 0 (-50) 0 := newTallies_eq v rfl
  have ok : after (.hold .ok) 16 5 p.combo := newTallies_eq v rfl
  have ng : after (.hold .ng) 0 (-50) p.combo := newTallies_eq v rfl
  exact ⟨fun _ => ⟨exact, tight, near⟩, wide, miss, ok, ng, fun small r => (points_le_noteValue v r).trans small⟩

end Sys2Proof.Proofs

namespace Sys2Proof.Machine

/-! ### The window clamp (R114) -/

theorem clampUp_order {e t n w e' t' n' w' : Nat} (up : clampUp e t n w = (e', t', n', w')) :
    4 ≤ e' ∧ e' + 4 ≤ t' ∧ t' + 4 ≤ n' ∧ n' + 4 ≤ w' := by
  simp only [clampUp, Prod.mk.injEq] at up
  omega

/-- Windows in order from 4 up leave each bound of the downward pass at least as high as the order asks. -/
theorem clampDown_order {e t n w e' t' n' w' : Nat} (down : clampDown e t n w = (e', t', n', w'))
    (order : 4 ≤ e ∧ e + 4 ≤ t ∧ t + 4 ≤ n ∧ n + 4 ≤ w) :
    4 ≤ e' ∧ e' + 4 ≤ t' ∧ t' + 4 ≤ n' ∧ n' + 4 ≤ w' ∧ w' ≤ 800 := by
  simp only [clampDown, Prod.mk.injEq] at down
  omega

theorem clampUp_eq_self {e t n w : Nat} (order : 4 ≤ e ∧ e + 4 ≤ t ∧ t + 4 ≤ n ∧ n + 4 ≤ w) :
    clampUp e t n w = (e, t, n, w) := by
  obtain ⟨he, ht, hn, hw⟩ := order
  simp only [clampUp, Nat.max_eq_right he, Nat.max_eq_right ht, Nat.max_eq_right hn, Nat.max_eq_right hw]

theorem clampDown_eq_self {e t n w : Nat} (order : e + 4 ≤ t ∧ t + 4 ≤ n ∧ n + 4 ≤ w) (limit : w ≤ 800) :
    clampDown e t n w = (e, t, n, w) := by
  obtain ⟨ht, hn, hw⟩ := order
  simp only [clampDown, Nat.min_eq_right limit, Nat.min_eq_right (Nat.le_sub_of_add_le hw),
    Nat.min_eq_right (Nat.le_sub_of_add_le hn), Nat.min_eq_right (Nat.le_sub_of_add_le ht)]

/-! ### START -/

theorem exec_start_eq (f : StartFrame) (p : FramePoint) (s : State) : exec (.start f p) s = execStart f p s := rfl

/-- A START heard and accepted: its effects leave PLAYING with the silence timer at 0, so Station Control, told of the
frame, changes nothing more (R113, R116, R117). -/
theorem exec_start_whole (f : StartFrame) (s : State) (h : s.hears (.start f) = true) (accepted : acceptsStart f s = true) :
    exec (.start f .whole) s = .next (takeStart f (atEndOfFrame (.start f) s)) := by
  obtain ⟨powered, -⟩ := (s.hears_iff (.start f)).mp h
  have decided : (decisionOf false (.start f) s).accepted = true := accepted
  have playing (t : State) : heardFrame (takeStart f t) = takeStart f t := rfl
  rw [exec_start_eq, execStart, whenPowered_eq s _ powered, receive_whole (.start f) _ s h, ifAccepted, if_pos decided,
    playing]

end Sys2Proof.Machine

namespace Sys2Proof.Proofs

open Sys2Proof.Machine

/-- Settles O41, pass by pass: the upward pass orders the windows, the downward pass keeps the order below 800, each
leaves ordered windows alone, and START hands the result to the Judge Unit. -/
theorem windowClamp : Obligations.WindowClamp := by
  intro f s e1 t1 n1 w1 w2 n2 t2 e2
  have up : clampUp (4 * f.e.toNat) (4 * f.t.toNat) (4 * f.n.toNat) (4 * f.w.toNat) = (e1, t1, n1, w1) := rfl
  have down : clampDown e1 t1 n1 w1 = (e2, t2, n2, w2) := rfl
  have judge (u : State) : (takeStart f u).judge = ⟨e2, t2, n2, w2, 4 * f.grace.toNat⟩ := rfl
  clear_value e1 t1 n1 w1 w2 n2 t2 e2
  have order := clampUp_order up
  refine ⟨by omega, clampDown_order down order, fun he ht hn hw limit => ?_, fun h idle later => ?_⟩
  · have raised := up.symm.trans (clampUp_eq_self ⟨he, ht, hn, hw⟩)
    obtain ⟨rfl, rfl, rfl, rfl⟩ : e1 = _ ∧ t1 = _ ∧ n1 = _ ∧ w1 = _ := by simpa using raised
    simpa using down.symm.trans (clampDown_eq_self ⟨ht, hn, hw⟩ limit)
  · have accepted : acceptsStart f s = true := by simp [acceptsStart, idle, later]
    exact ⟨_, exec_start_whole f s h accepted, by simp [judge]⟩

end Sys2Proof.Proofs

namespace Sys2Proof.Machine

/-! ### What a step is made of

Every command, and the cell period of an empty queue, is a chain of a few events. An invariant is therefore proved event by
event, and `step_keeps` carries it to `step`. -/

/-- What a command leaves; `exec` answers nothing else (`exec_eq_next`). -/
def effect (c : Instr) (s : State) : State :=
  match exec c s with
  | .next t => t
  | .fault _ => s
  | .refused _ => s

theorem exec_eq_next (c : Instr) (s : State) : exec c s = .next (effect c s) := by cases c <;> rfl

/-- One event under a command (none in a cell period), with the condition it is taken under. Only the events that a
statement ties to commands name theirs. -/
inductive Event (c : Option Instr) (s : State) : State → Prop
  /- Supply, settings, start-up -/
  | reset (p : Straps) (by_command : c = some (.reset p)) : Event c s (resetStation p s)
  | load (by_command : c = some .settingsLoad) (startup : s.station.state = .startup) (unloaded : s.loaded = false) :
      Event c s (loadSettings s)
  | storeComplete (by_command : c = some .storeComplete ∨ c = none) : Event c s (completeStore s)
  | losePower (by_command : c = some .powerLoss) : Event c s (losePower s)
  | startupEnd (sampled : s.startupOver = true) : Event c s (endStartup s)
  /- Sensing -/
  | sample (raws : Quad (BitVec 12)) (loaded : s.loaded = true) : Event c s (takeSample raws s)
  | zoneFault (zone : Fin 4) :
      Event c s (s.setSense { s.sense with zones := s.sense.zones.modify zone ZoneRecord.reachFault })
  | zoneRecovery (zone : Fin 4) :
      Event c s (s.setSense { s.sense with zones := s.sense.zones.modify zone ZoneRecord.reachRecovery })
  /- Song time -/
  | tick : Event c s (tickBoundary s)
  | threshold (x : Threshold) (judges : s.station.state.judges = true) : Event c s (takeThreshold s x)
  | markPoint (running : s.clock.running = true) (unsaturated : s.clock.saturated = false) :
      Event c s (s.setClock s.clock.reachMark)
  | saturation (limit : s.clock.tick = maxTick) : Event c s (s.setClock s.clock.saturate)
  | silence (playing : s.station.state = .playing) : Event c s (enterLost s)
  /- Lamps -/
  | flashStep : Event c s (flashStep s)
  | otherHalf : Event c s (otherHalf s)
  | pwm (sensed : Quad ChannelSense) : Event c s (pwmBoundary sensed s)
  | openFlag (channel : Fin 4) :
      Event c s (s.setLamp { s.lamp with channels := s.lamp.channels.modify channel Channel.reachOpen })
  /- The line between frames -/
  | countHigh (n : Nat) (counts : s.line.highCount ≤ n) : Event c s (s.setLine (s.line.countHigh n))
  | assembly (between : s.line.betweenFrames = true) : Event c s (beginAssembly s)
  | edge (inBreak : s.line.state = .lineBreak) : Event c s (edgeInBreak s)
  | runtFree (free : s.line.state = .lineFree) : Event c s (s.setLine { s.line with state := .receiving, highCount := 0 })
  | runtDropped (receiving : s.line.state = .receiving) (undecided : s.line.decision = none) :
      Event c s (s.setLine { s.line with highCount := 0, assembly := none })
  | abort (high : Nat) (limit : high ≤ yieldGap) : Event c s (abortFrame high s)
  | broken (idle : s.line.busyWithFrame = false) : Event c s (s.setLine { s.line with state := .lineBreak })
  /- Own frames -/
  | contend (src : Source) (rivals : List Byte) (free : s.line.state = .lineFree) : Event c s (contend src rivals s)
  | latch (f : InFlight) (l : Latched) (contending : s.line.state = .contending) (flying : s.line.inFlight = some f)
      (latched : latchSource f s = some l) :
      Event c s (s.setLine { s.line with state := .sending, inFlight := some { f with latched := some l } })
  | duplicate : Event c s (enterFault .duplicate s)
  | markSent (f : InFlight) (sending : s.line.state = .sending) (flying : s.line.inFlight = some f) (source : f.source = .mark) :
      Event c s (settleMark (ownFrameEnded s))
  | reportSent (f : InFlight) (l : Latched) (sending : s.line.state = .sending) (flying : s.line.inFlight = some f)
      (source : f.source = .report) (latched : f.latched = some l) : Event c s (completeReport l.content (ownFrameEnded s))
  | statusSent (f : InFlight) (sending : s.line.state = .sending) (flying : s.line.inFlight = some f)
      (source : f.source = .status) :
      Event c s ((ownFrameEnded s).setLine { (ownFrameEnded s).line with statusSlot := none })
  /- Frames heard -/
  | decided (ahead : Bool) (f : Frame) (examines : s.station.state.examines = true) (follows : s.line.mayFollow = true)
      (formed : f.wellFormed = true) : Event c s (decideFrame ahead f s)
  | unread (follows : s.line.mayFollow = true) : Event c s (heardEnd s)
  | ended (d : Decision) (held : s.line.decision = some d) (noNote : ∀ f, d.frame ≠ .note f) : Event c s (heardEnd s)
  | heardMark (d : Decision) (f : MarkFrame) (held : s.line.decision = some d) (frame : d.frame = .mark f) :
      Event c s (takeMark f.tick.toNat (heardEnd s))
  | heardStart (d : Decision) (f : StartFrame) (held : s.line.decision = some d) (frame : d.frame = .start f)
      (accepted : d.accepted = true) (by_command : ∃ p, c = some (.start f p)) : Event c s (takeStart f (heardEnd s))
  | heardStop (d : Decision) (held : s.line.decision = some d) : Event c s (takeStop (heardEnd s))
  | heardNote (d : Decision) (f : NoteFrame) (held : s.line.decision = some d) (frame : d.frame = .note f) :
      Event c s (noteEffect d (heardEnd s))
  | heardMember (d : Decision) (r : HeadReport) (held : s.line.decision = some d) (frame : d.frame = .member r) :
      Event c s (examineReport r.sender.toNat r.due.toNat r.grade (heardEnd s))
  | heardClosure (d : Decision) (k : ClosureFrame) (held : s.line.decision = some d) (frame : d.frame = .closure k) :
      Event c s (closureEffect k (heardEnd s))
  | heardTail (d : Decision) (f : TailFrame) (held : s.line.decision = some d) (frame : d.frame = .tail f) :
      Event c s (adopt f.sender.toNat f.carried (heardEnd s))
  | heardLamp (d : Decision) (f : LampFrame) (clear : Bool) (held : s.line.decision = some d)
      (frame : d.frame = .lamp f clear) : Event c s (takeLamp f clear (heardEnd s))
  | heardWrite (d : Decision) (f : WriteFrame) (held : s.line.decision = some d) (frame : d.frame = .write f)
      (by_command : ∃ p, c = some (.write f p)) : Event c s (takeWrite f.field.toNat f.value (heardEnd s))
  | heardStore (d : Decision) (target : Byte) (held : s.line.decision = some d) (frame : d.frame = .store target) :
      Event c s (beginStore (heardEnd s))
  | heardRestart (d : Decision) (target : Byte) (straps : Straps) (held : s.line.decision = some d)
      (frame : d.frame = .restart target) (by_command : ∃ p, c = some (.restart target straps p)) :
      Event c s (resetStation straps (heardEnd s))
  | heardQuery (d : Decision) (f : QueryFrame) (held : s.line.decision = some d) (frame : d.frame = .query f) :
      Event c s (takeQuery f (heardEnd s))
  | told : Event c s (heardFrame s)
  /- A cell period -/
  | storeCell (j : StoreJob) (busy : s.settings.job = some j) :
      Event c s (s.setSettings { s.settings with job := some { j with elapsed := j.elapsed + 1 } })
  | silenceCell (n : Nat) (timer : s.station.silence = some n) (limit : n + 1 < Config.cellsPer250ms) :
      Event c s (s.setStation { s.station with silence := some (n + 1) })
  | flashCell (f : Flash) (flash : s.lamp.flash = some f) (limit : f.timer + 1 < Config.cellsPerFlashStep) :
      Event c s (s.setLamp { s.lamp with flash := some { f with timer := f.timer + 1 } })
  | patternCell : Event c s (cellPattern s)
  | periodsCell : Event c s (cellPeriods s)
  | followedCell (n : Nat) (follows : s.line.assembly.isSome = true) (limit : n ≤ yieldGap) :
      Event c s (s.setLine { s.line with highCount := n })
  | phaseCell (limit : s.clock.phase + 1 < Config.cellsPerTick) (unsaturated : s.clock.saturated = false) :
      Event c s (s.setClock { s.clock with phase := s.clock.phase + 1 })

/-- A chain of events. -/
abbrev Events (c : Option Instr) : State → State → Prop := Relation.ReflTransGen (Event c)

theorem Event.events {c : Option Instr} {s t : State} (h : Event c s t) : Events c s t := .single h

/-! ### A cell period as a chain of events -/

theorem cellStartup_events (s : State) : Events none s (cellStartup s) := by
  unfold cellStartup
  split
  · exact (Event.startupEnd ‹_›).events
  · exact .refl

theorem cellStore_events (s : State) : Events none s (cellStore s) := by
  unfold cellStore
  split
  · split
    · exact (Event.storeComplete (.inr rfl)).events
    · exact (Event.storeCell _ ‹_›).events
  · exact .refl

theorem cellSilence_events (s : State) : Events none s (cellSilence s) := by
  unfold cellSilence
  split
  · split
    · split
      · exact (Event.silence ‹_›).events
      · exact .refl
    · exact (Event.silenceCell _ ‹_› (Nat.lt_of_not_le ‹_›)).events
  · exact .refl

theorem cellFlash_events (s : State) : Events none s (cellFlash s) := by
  unfold cellFlash
  split
  · split
    · exact Event.flashStep.events
    · exact (Event.flashCell _ ‹_› (Nat.lt_of_not_le ‹_›)).events
  · exact .refl

theorem cellLine_events (s : State) : Events none s (cellLine s) := by
  unfold cellLine
  split
  · split
    · rename_i h
      obtain ⟨follows, -⟩ := Bool.and_eq_true _ _ ▸ h
      unfold Machine.followedCell
      dsimp only
      split
      · exact (Event.abort _ (Nat.min_le_left _ _)).events
      · exact (Event.followedCell _ follows (Nat.min_le_left _ _)).events
    · split
      · exact .refl
      · exact (Event.countHigh _ (Nat.le_succ _)).events
  · exact .refl

theorem cellClock_events (s : State) : Events none s (cellClock s) := by
  unfold cellClock
  split
  · rename_i advances
    simp only [SongClock.advances, Bool.and_eq_true, Bool.not_eq_true'] at advances
    split
    · exact Event.tick.events
    · exact (Event.phaseCell (Nat.lt_of_not_le ‹_›) advances.1.2).events
  · exact .refl

theorem cellPeriod_events (s : State) : Events none s (cellPeriod s) := by
  unfold cellPeriod whenPowered
  split
  · exact (cellStartup_events s).trans <| (cellStore_events _).trans <| (cellSilence_events _).trans <|
      (cellFlash_events _).trans <| Event.patternCell.events.trans <| Event.periodsCell.events.trans <|
      (cellLine_events _).trans (cellClock_events _)
  · exact .refl

/-! ### A command as a chain of events -/

variable {c : Option Instr}

theorem whenPowered_events {f : State → State} (s : State) (h : Events c s (f s)) : Events c s (whenPowered s f) := by
  unfold whenPowered
  split
  · exact h
  · exact .refl

theorem events_ite {p : Prop} [Decidable p] {s t : State} (h : p → Events c s t) : Events c s (if p then t else s) := by
  split
  · exact h ‹_›
  · exact .refl

theorem beforeSample_events (s : State) : Events c s (beforeSample s) :=
  events_ite fun sampled => (Event.startupEnd sampled).events

theorem sampleBringing_events (event : State → Bool) (raws : Quad (BitVec 12)) (s : State) :
    Events c s (sampleBringing event raws s) :=
  events_ite fun h => (beforeSample_events s).trans
    (Event.sample raws (by simpa [State.loaded] using (Bool.and_eq_true _ _ ▸ h).1)).events

theorem followStart_events (s : State) : Events c s (followStart s) := by
  refine events_ite fun _ => ?_
  split
  · exact (Event.edge ‹_›).events
  · exact events_ite fun between => (Event.assembly between).events

theorem heardUnread_events (s : State) : Events c s (heardUnread s) := by
  unfold heardUnread
  split
  · exact (Event.edge ‹_›).events
  · exact events_ite fun follows => (Event.unread follows).events

theorem reachAck_events (ahead : Bool) (f : Frame) (s : State) : Events c s (reachAck ahead f s) := by
  refine events_ite fun _ => ?_
  split
  · rename_i h
    simp only [Bool.and_eq_true] at h
    obtain ⟨⟨examines, follows⟩, formed⟩ := h
    split
    · exact Event.duplicate.events
    · exact (Event.decided ahead f examines follows formed).events
  · exact heardUnread_events s

/-- A frame received is its decision, its effect at the end-of-frame, and Station Control told of it. -/
theorem receive_events {f : Frame} {effect : Decision → State → State} (p : FramePoint) (s : State)
    (h : ∀ d s, s.line.decision = some d → d.frame = f → Event c s (effect d (heardEnd s))) :
    Events c s (receive f effect p s) := by
  have atEnd (s : State) : Events c s (reachEnd f effect s) := by
    unfold reachEnd
    split
    · exact events_ite fun frame => (h _ s ‹_› frame).events.trans Event.told.events
    · exact .refl
  cases p with
  | ackCell => exact reachAck_events true f s
  | endOfFrame => exact atEnd s
  | whole => exact (reachAck_events false f s).trans (atEnd _)

/-- The same of a frame whose effect is taken only if it was accepted. -/
theorem receive_ifAccepted_events {f : Frame} {effect : State → State} (p : FramePoint) (s : State)
    (noNote : ∀ n, f ≠ .note n)
    (h : ∀ d s, s.line.decision = some d → d.frame = f → d.accepted = true → Event c s (effect (heardEnd s))) :
    Events c s (receive f (ifAccepted effect) p s) := by
  refine receive_events p s fun d s held frame => ?_
  unfold ifAccepted
  split
  · exact h d s held frame ‹_›
  · exact .ended d held (frame ▸ noNote)

/-- The end of an own frame: a mismatch, or the completion of its source, with Station Control told of an acknowledge. -/
theorem endOwnFrame_events {src : Source} {complete : Latch → State → State} (ending : OwnEnd) (s : State)
    (h : ∀ f l, s.line.state = .sending → s.line.inFlight = some f → f.source = src → f.latched = some l →
      Event c s (complete l.content (ownFrameEnded s))) :
    Events c s (endOwnFrame src ending complete s) := by
  unfold endOwnFrame
  split
  · rename_i f sending flying
    refine events_ite fun source => ?_
    split
    · split
      · exact Event.duplicate.events
      · refine (h f _ sending flying source ‹_›).events.trans ?_
        unfold tellAcknowledged
        exact events_ite fun _ => Event.told.events
    · exact .refl
  · exact .refl

theorem payloadLatch_events (s : State) : Events c s (effect .payloadLatch s) := by
  simp only [effect, exec, execPayloadLatch]
  refine whenPowered_events s ?_
  split
  · split
    · exact (Event.latch _ _ ‹_› ‹_› ‹_›).events
    · exact .refl
  · exact .refl

theorem runt_events (s : State) : Events c s (effect .runt s) := by
  refine whenPowered_events s (events_ite fun _ => ?_)
  split
  · exact (Event.edge ‹_›).events
  · exact (Event.runtFree ‹_›).events
  · refine events_ite fun h => (Event.runtDropped ‹_› ?_).events
    exact Option.isNone_iff_eq_none.mp (Bool.and_eq_true _ _ ▸ h).1
  · exact .refl
  · exact .refl

theorem longLow_events (s : State) : Events c s (effect .longLow s) := by
  refine whenPowered_events s (events_ite fun _ => ?_)
  split
  · exact (Event.edge ‹_›).events
  · exact (Event.abort 0 (by decide)).events

theorem lineBreak_events (s : State) : Events c s (effect .lineBreak s) :=
  whenPowered_events s <| events_ite fun _ =>
    (Event.abort 0 (by decide)).events.trans (Event.broken (by simp [abortFrame, LineController.released,
      LineController.busyWithFrame])).events

theorem frameStart_events (i : StartInstant) (s : State) : Events c s (effect (.frameStart i) s) := by
  simp only [effect, exec, execFrameStart]
  refine whenPowered_events s ?_
  split
  · rename_i h
    unfold startSource at h
    split at h
    · rename_i free
      simp only [Bool.and_eq_true, beq_iff_eq] at free
      exact (Event.contend _ _ free.1.1.2).events
    · cases h
  · exact events_ite fun _ => followStart_events s

/-- Every command is a chain of events. -/
theorem effect_events (c : Instr) (s : State) : Events (some c) s (effect c s) := by
  cases c with
  | reset p => exact (Event.reset p rfl).events
  | settingsLoad =>
    exact whenPowered_events s <| events_ite fun h => (Event.load rfl h.1 h.2).events
  | sample raws => exact whenPowered_events s (sampleBringing_events _ raws s)
  | baselineTracking | press | release => exact whenPowered_events s (sampleBringing_events _ _ s)
  | zoneFault zone =>
    simp only [effect, exec, execZoneFault]
    exact whenPowered_events s (Event.zoneFault zone).events
  | zoneRecovery zone =>
    simp only [effect, exec, execZoneRecovery]
    exact whenPowered_events s (Event.zoneRecovery zone).events
  | startupEnd => exact whenPowered_events s (events_ite fun sampled => (Event.startupEnd sampled).events)
  | tickAdvance => exact whenPowered_events s Event.tick.events
  | lapse due =>
    exact whenPowered_events s <| events_ite fun h => (Event.threshold ⟨0, .lapse, due⟩ (Bool.and_eq_true _ _ ▸ h).1).events
  | holdEnd due =>
    exact whenPowered_events s <| events_ite fun h =>
      (Event.threshold ⟨0, .holdEnd, due⟩ (Bool.and_eq_true _ _ ▸ h).1).events
  | graceExpiry due =>
    exact whenPowered_events s <| events_ite fun h => (Event.threshold ⟨0, .grace, due⟩ (Bool.and_eq_true _ _ ▸ h).1).events
  | forcedClosePoint key =>
    exact whenPowered_events s <| events_ite fun h => (Event.threshold ⟨0, .forced, key⟩ (Bool.and_eq_true _ _ ▸ h).1).events
  | markPoint =>
    refine whenPowered_events s (events_ite fun h => ?_)
    simp only [Bool.and_eq_true, Bool.not_eq_true'] at h
    exact (Event.markPoint h.1 h.2).events
  | saturation =>
    refine whenPowered_events s (events_ite fun h => ?_)
    simp only [Bool.and_eq_true, decide_eq_true_eq] at h
    exact (Event.saturation h.2).events
  | silenceTimeout => exact whenPowered_events s (events_ite fun h => (Event.silence h.1).events)
  | flashStep => exact whenPowered_events s Event.flashStep.events
  | faultPatternTimer => exact whenPowered_events s Event.otherHalf.events
  | pwmPeriod sensed => exact whenPowered_events s (Event.pwm sensed).events
  | openFlag channel =>
    simp only [effect, exec, execOpenFlag]
    exact whenPowered_events s (Event.openFlag channel).events
  | storeComplete => exact whenPowered_events s (Event.storeComplete (.inl rfl)).events
  | idleGap =>
    exact whenPowered_events s (events_ite fun _ => (Event.countHigh _ (Nat.le_max_right _ _)).events)
  | frameStart i => exact frameStart_events i s
  | payloadLatch => exact payloadLatch_events s
  | markSent ending =>
    exact whenPowered_events s <| endOwnFrame_events ending s fun f _ sending flying source _ => .markSent f sending flying source
  | judgeSent ending =>
    exact whenPowered_events s <| endOwnFrame_events ending s fun f l sending flying source latched =>
      .reportSent f l sending flying source latched
  | statusSent ending =>
    exact whenPowered_events s <| endOwnFrame_events ending s fun f _ sending flying source _ =>
      .statusSent f sending flying source
  | mark f p =>
    exact whenPowered_events s <| receive_ifAccepted_events p s nofun fun d _ held frame _ => .heardMark d f held frame
  | start f p =>
    exact whenPowered_events s <| receive_ifAccepted_events p s nofun fun d _ held frame accepted =>
      .heardStart d f held frame accepted ⟨p, rfl⟩
  | stop p => exact whenPowered_events s <| receive_ifAccepted_events p s nofun fun d _ held _ _ => .heardStop d held
  | note f p => exact whenPowered_events s <| receive_events p s fun d _ held frame => .heardNote d f held frame
  | memberReport r p => exact whenPowered_events s <| receive_events p s fun d _ held frame => .heardMember d r held frame
  | orphan r p =>
    exact whenPowered_events s <| receive_events p s fun d _ held frame => .ended d held (by simp [frame])
  | heardClosure k p => exact whenPowered_events s <| receive_events p s fun d _ held frame => .heardClosure d k held frame
  | tailFrame f p => exact whenPowered_events s <| receive_events p s fun d _ held frame => .heardTail d f held frame
  | lamp f p =>
    exact whenPowered_events s <| receive_ifAccepted_events p s nofun fun d _ held frame _ => .heardLamp d f false held frame
  | clearLatch f p =>
    exact whenPowered_events s <| receive_ifAccepted_events p s nofun fun d _ held frame _ => .heardLamp d f true held frame
  | write f p =>
    exact whenPowered_events s <| receive_ifAccepted_events p s nofun fun d _ held frame _ =>
      .heardWrite d f held frame ⟨p, rfl⟩
  | store target p =>
    exact whenPowered_events s <| receive_ifAccepted_events p s nofun fun d _ held frame _ => .heardStore d target held frame
  | restart target straps p =>
    exact whenPowered_events s <| receive_ifAccepted_events p s nofun fun d _ held frame _ =>
      .heardRestart d target straps held frame ⟨p, rfl⟩
  | query f p =>
    exact whenPowered_events s <| receive_ifAccepted_events p s nofun fun d _ held frame _ => .heardQuery d f held frame
  | statusReceived f p =>
    exact whenPowered_events s <| receive_events p s fun d _ held frame => .ended d held (by simp [frame])
  | runt => exact runt_events s
  | longLow => exact longLow_events s
  | frameTimeout => exact whenPowered_events s <| events_ite fun _ => (Event.abort _ (by decide)).events
  | lineBreak => exact lineBreak_events s
  | frameDiscarded w => exact whenPowered_events s <| events_ite fun _ => heardUnread_events s
  | lineBreakFallingEdge =>
    refine whenPowered_events s (events_ite fun h => ?_)
    simp only [Bool.and_eq_true, beq_iff_eq] at h
    exact (Event.edge h.2).events
  | powerLoss => exact whenPowered_events s (Event.losePower rfl).events

/-! ### Steps -/

/-- A step is the chain of events of the command at the front, or of a cell period. -/
theorem step_events {s t : State} (h : step s = .next t) :
    (s.pending = [] ∧ Events none s t) ∨
      ∃ c rest, s.pending = c :: rest ∧ Events (some c) (s.setPending rest) t := by
  unfold step at h
  split at h
  · rename_i c rest waiting
    rw [exec_eq_next] at h
    cases h
    exact .inr ⟨c, rest, waiting, effect_events c _⟩
  · cases h
    exact .inl ⟨‹_›, cellPeriod_events s⟩

theorem Events.keep {P : State → Prop} {s t : State} (event : ∀ s t, Event c s t → P s → P t) (h : Events c s t)
    (hs : P s) : P t := by
  induction h with
  | refl => exact hs
  | tail _ last ih => exact event _ _ last ih

/-- What every event keeps, and the queue of commands has no part in, every step keeps. -/
theorem step_keeps {P : State → Prop} (pending : ∀ s rest, P s → P (s.setPending rest))
    (event : ∀ c s t, Event c s t → P s → P t) {s t : State} (hs : P s) (h : step s = .next t) : P t := by
  rcases step_events h with ⟨-, chain⟩ | ⟨c, rest, -, chain⟩
  · exact chain.keep (event none) hs
  · exact chain.keep (event (some c)) (pending s rest hs)

end Sys2Proof.Machine

namespace Sys2Proof.Machine

@[simp] theorem implies_iff (a b : Bool) : implies a b = true ↔ (a = true → b = true) := by
  cases a <;> simp [implies]

/-! ### The Song Clock in every event -/

/-- The soundness of a clock in a station state: all that `clockSound` reads. -/
def SongClock.soundIn (c : SongClock) (st : StationState) : Prop :=
  c.tick ≤ maxTick ∧ c.phase < Config.cellsPerTick ∧ c.running = st.clockRuns ∧ (c.saturated = true → c.tick = maxTick ∧ c.phase = 0) ∧
    (c.markPending = true → c.running = true ∧ c.saturated = false) ∧ markPointOk c.nextMark = true

theorem clockSound_iff (s : State) : clockSound s = true ↔ s.clock.soundIn s.station.state := by
  simp [clockSound, SongClock.soundIn, and_assoc]

theorem zero_lt_cellsPerTick : 0 < Config.cellsPerTick := by decide

theorem SongClock.soundIn_of_clockRuns {c : SongClock} {st st' : StationState} (h : c.soundIn st)
    (runs : st'.clockRuns = st.clockRuns) : c.soundIn st' := by
  unfold soundIn; rw [runs]; exact h

/-- A next mark point formed afresh is one R19 allows. -/
theorem markPointOk_nextMarkAfter (tick : Nat) : markPointOk (nextMarkAfter tick) = true := by
  unfold nextMarkAfter
  dsimp only
  split
  · simp [markPointOk, *]
  · rfl

theorem SongClock.settled_soundIn {c : SongClock} {st : StationState} (h : c.soundIn st) :
    SongClock.soundIn { c with markPending := false, nextMark := nextMarkAfter c.tick } st := by
  obtain ⟨tick, phase, running, saturated, -, -⟩ := h
  exact ⟨tick, phase, running, saturated, nofun, markPointOk_nextMarkAfter c.tick⟩

theorem SongClock.stopped_soundIn {c : SongClock} {st st' : StationState} (h : c.soundIn st) (stops : st'.clockRuns = false) :
    c.stopped.soundIn st' := by
  obtain ⟨tick, phase, -, saturated, -, mark⟩ := h
  exact ⟨tick, phase, stops.symm, saturated, nofun, mark⟩

theorem SongClock.saturate_soundIn {c : SongClock} {st : StationState} (limit : c.tick = maxTick)
    (running : c.running = st.clockRuns) : c.saturate.soundIn st :=
  ⟨limit.le, zero_lt_cellsPerTick, running, fun _ => ⟨limit, rfl⟩, nofun, rfl⟩

theorem SongClock.reachMark_eq (c : SongClock) : c.reachMark = c ∨ c.reachMark = { c with markPending := true } := by
  unfold reachMark
  split
  · split <;> simp
  · simp

theorem SongClock.reachMark_soundIn {c : SongClock} {st : StationState} (h : c.soundIn st) (running : c.running = true)
    (unsaturated : c.saturated = false) : c.reachMark.soundIn st := by
  rcases c.reachMark_eq with same | pends
  · rwa [same]
  · rw [pends]
    obtain ⟨tick, phase, runs, saturated, -, mark⟩ := h
    exact ⟨tick, phase, runs, saturated, fun _ => ⟨running, unsaturated⟩, mark⟩

theorem SongClock.advances_iff (c : SongClock) :
    c.advances = true ↔ c.running = true ∧ c.saturated = false ∧ c.tick < maxTick := by
  simp [advances, and_assoc]

theorem SongClock.nextTick_soundIn {c : SongClock} {st : StationState} (h : c.soundIn st) (advances : c.advances = true) :
    c.nextTick.soundIn st := by
  obtain ⟨running, unsaturated, below⟩ := c.advances_iff.mp advances
  obtain ⟨-, -, runs, -, pending, mark⟩ := h
  unfold nextTick
  dsimp only
  split
  · exact saturate_soundIn ‹_› runs
  · refine reachMark_soundIn ⟨below, zero_lt_cellsPerTick, runs, by simp [unsaturated], pending, mark⟩ running unsaturated

/-- The target of a mark is a clock value. -/
theorem markTarget_range (m : Nat) : (markTarget m).1 ≤ maxTick ∧ (markTarget m).2 < Config.cellsPerTick := by
  unfold markTarget
  split
  · exact ⟨le_rfl, zero_lt_cellsPerTick⟩
  · exact ⟨by dsimp only; omega, by simp [Config.cellsPerTick]⟩

theorem earlier_iff (a b : Nat × Nat) : earlier a b = true ↔ a.1 < b.1 ∨ a.1 = b.1 ∧ a.2 < b.2 := by
  simp [earlier]

/-- A clock earlier than the target of a mark is not at its limit, so it is unsaturated. -/
theorem unsaturated_of_earlier {c : SongClock} {st : StationState} {m : Nat} (h : c.soundIn st)
    (behind : earlier (c.tick, c.phase) (markTarget m) = true) : c.saturated = false := by
  obtain ⟨-, -, -, saturated, -, -⟩ := h
  rw [earlier_iff] at behind
  by_contra full
  obtain ⟨limit, zero⟩ := saturated (by simpa using full)
  have := markTarget_range m
  unfold markTarget at behind this
  split at behind
  · simp_all
  · simp_all
    omega

theorem SongClock.stepTo_soundIn {c : SongClock} {st : StationState} {m : Nat} (h : c.soundIn st)
    (behind : earlier (c.tick, c.phase) (markTarget m) = true) : (c.stepTo (markTarget m)).soundIn st := by
  have unsaturated := unsaturated_of_earlier h behind
  have range := markTarget_range m
  obtain ⟨-, -, running, -, pending, mark⟩ := h
  unfold stepTo
  dsimp only
  split
  · exact saturate_soundIn ‹_› running
  · exact ⟨range.1, range.2, running, by simp [unsaturated], pending, mark⟩

/-! ### What the operations make of the station state, as far as the clock asks -/

@[simp] theorem heardFrame_clockRuns (s : State) :
    (heardFrame s).station.state.clockRuns = s.station.state.clockRuns := by
  unfold heardFrame
  split <;> simp_all [setState, setPattern, StationState.clockRuns]

theorem StationState.clockRuns_of_judges {st : StationState} (h : st.judges = true) : st.clockRuns = true := by
  cases st <;> simp_all [judges, clockRuns]

@[simp] theorem testFailure_clockRuns (s : State) :
    (testFailure s).station.state.clockRuns = s.station.state.clockRuns := by
  unfold testFailure
  split
  · rename_i h
    rw [StationState.clockRuns_of_judges h.1]
    rfl
  · rfl

@[simp] theorem adopt_clockRuns (sender : Nat) (k : Carried) (s : State) :
    (adopt sender k s).station.state.clockRuns = s.station.state.clockRuns := by
  unfold adopt
  split <;> simp

@[simp] theorem examineDone_clockRuns (s : State) :
    (examineDone s).station.state.clockRuns = s.station.state.clockRuns := by
  unfold examineDone
  split
  · rename_i h
    simp [enterDone, setState, h.1, StationState.clockRuns]
  · rfl

@[simp] theorem reportAdvance_clockRuns (old new : Nat) (s : State) :
    (reportAdvance old new s).station.state.clockRuns = s.station.state.clockRuns := by
  simp [reportAdvance]

@[simp] theorem completeReport_clockRuns (l : Latch) (s : State) :
    (completeReport l s).station.state.clockRuns = s.station.state.clockRuns := by
  unfold completeReport
  split
  · simp only [judgeCompleted]
    split <;> simp
  · rfl
  · rfl

@[simp] theorem completeReport_frame (l : Latch) (s : State) :
    (completeReport l s).powered = s.powered ∧ (completeReport l s).straps = s.straps ∧
    (completeReport l s).settings = s.settings ∧ (completeReport l s).sense = s.sense ∧
    (completeReport l s).clock = s.clock ∧ (completeReport l s).judge = s.judge ∧
    (completeReport l s).line = s.line ∧ (completeReport l s).freeCount = s.freeCount ∧
    (completeReport l s).pending = s.pending := by
  cases l <;> simp [completeReport]

/-! ### Soundness of the clock, operation by operation -/

theorem tickBoundary_soundClock {s : State} (h : s.clock.soundIn s.station.state) :
    (tickBoundary s).clock.soundIn (tickBoundary s).station.state := by
  unfold tickBoundary
  split
  · refine SongClock.soundIn_of_clockRuns (st := s.station.state) ?_ (by simp)
    simpa using SongClock.nextTick_soundIn h ‹_›
  · exact h

theorem correctForward_soundClock {s : State} (m : Nat) (h : s.clock.soundIn s.station.state) :
    (correctForward m s).clock.soundIn (correctForward m s).station.state := by
  simp only [correctForward]
  split
  · have stepped := SongClock.stepTo_soundIn h ‹_›
    split
    · exact SongClock.soundIn_of_clockRuns (st := s.station.state) (by simpa using stepped) (by simp)
    · simpa using stepped
  · exact h

theorem enterFault_soundClock {s : State} (cause : FaultCause) (h : s.clock.soundIn s.station.state) :
    (enterFault cause s).clock.soundIn (enterFault cause s).station.state :=
  SongClock.stopped_soundIn h rfl

theorem endStartup_soundClock {s : State} (sampled : s.startupOver = true) (h : s.clock.soundIn s.station.state) :
    (endStartup s).clock.soundIn (endStartup s).station.state := by
  unfold endStartup
  split
  · simp only [State.startupOver, Bool.and_eq_true, decide_eq_true_eq] at sampled
    exact SongClock.soundIn_of_clockRuns h (by simp [setState, sampled.1, StationState.clockRuns])
  · exact enterFault_soundClock .strap h

theorem startClock_soundIn (start : BitVec 24) : (startClock start.toNat).soundIn .playing := by
  have := start.isLt
  refine ⟨?_, zero_lt_cellsPerTick, rfl, nofun, nofun, markPointOk_nextMarkAfter _⟩
  simp only [startClock, maxTick]
  omega

theorem resetStation_soundClock (p : Straps) (s : State) :
    (resetStation p s).clock.soundIn (resetStation p s).station.state :=
  (clockSound_iff State.reset).mp (by decide)

/-- Every event keeps the Song Clock sound. -/
theorem Event.keeps_clock {c : Option Instr} {s t : State} (e : Event c s t) (h : s.clock.soundIn s.station.state) :
    t.clock.soundIn t.station.state := by
  cases e with
  | reset p => exact resetStation_soundClock p s
  | heardRestart _ _ p => exact resetStation_soundClock p _
  | startupEnd sampled => exact endStartup_soundClock sampled h
  | tick => exact tickBoundary_soundClock h
  | markPoint running unsaturated => simpa using SongClock.reachMark_soundIn h running unsaturated
  | saturation limit => simpa using SongClock.saturate_soundIn limit h.2.2.1
  | phaseCell limit unsaturated =>
    obtain ⟨tick, -, running, -, pending, mark⟩ := h
    exact ⟨tick, limit, running, by simp [unsaturated], pending, mark⟩
  | duplicate => exact enterFault_soundClock .duplicate h
  | markSent => simpa [settleMark] using SongClock.settled_soundIn h
  | heardMark _ f =>
    have stepped := correctForward_soundClock (s := heardEnd s) f.tick.toNat (by simpa using h)
    simpa [takeMark, settleMark] using SongClock.settled_soundIn stepped
  | heardStart _ f => exact startClock_soundIn f.startTime
  | heardStop => exact SongClock.stopped_soundIn (by simpa using h) rfl
  | silence playing =>
    exact SongClock.soundIn_of_clockRuns (by simpa using h) (by simp [enterLost, setState, setPattern, playing,
      StationState.clockRuns])
  | told | reportSent | heardClosure | heardTail =>
    exact SongClock.soundIn_of_clockRuns (st := s.station.state) (by simpa using h) (by simp [closureEffect])
  | _ => simpa using h

/-! ### The tick never runs back -/

/-- The tick is at least `k`, and at most its limit. -/
def State.tickFrom (k : Nat) (s : State) : Prop := k ≤ s.clock.tick ∧ s.clock.tick ≤ maxTick

theorem SongClock.reachMark_tick (c : SongClock) : c.reachMark.tick = c.tick := by
  rcases c.reachMark_eq with same | pends
  · rw [same]
  · rw [pends]

theorem SongClock.nextTick_tick (c : SongClock) : c.nextTick.tick = c.tick + 1 := by
  unfold nextTick
  dsimp only
  split
  · rfl
  · exact reachMark_tick _

theorem SongClock.stepTo_tick (c : SongClock) (target : Nat × Nat) : (c.stepTo target).tick = target.1 := by
  unfold stepTo
  dsimp only
  split <;> rfl

theorem tickBoundary_tickFrom {k : Nat} {s : State} (h : s.tickFrom k) : (tickBoundary s).tickFrom k := by
  unfold tickBoundary
  split
  · obtain ⟨-, -, below⟩ := s.clock.advances_iff.mp ‹_›
    simp only [State.tickFrom, reportAdvance_frame, State.setClock_clock, SongClock.nextTick_tick]
    exact ⟨h.1.trans (Nat.le_succ _), below⟩
  · exact h

theorem takeMark_tickFrom {k : Nat} {s : State} (m : Nat) (h : s.tickFrom k) : (takeMark m s).tickFrom k := by
  have forward : (correctForward m s).tickFrom k := by
    simp only [correctForward]
    split
    · rename_i behind
      have reached : s.clock.tick ≤ (markTarget m).1 := by
        rcases (earlier_iff _ _).mp behind with less | ⟨same, -⟩
        · exact less.le
        · exact same.le
      have range := (markTarget_range m).1
      have := h.1
      split <;> simp only [State.tickFrom, reportAdvance_frame, State.setClock_clock, SongClock.stepTo_tick] <;> omega
    · exact h
  simpa [takeMark, settleMark, State.tickFrom] using forward

/-- Only a START and a reset turn the tick back. -/
theorem Event.keeps_tickFrom {c : Option Instr} {k : Nat} {s t : State} (e : Event c s t)
    (others : ¬∃ i, c = some i ∧ ((∃ p, i = .reset p) ∨ (∃ a p q, i = .restart a p q) ∨ ∃ f p, i = .start f p))
    (h : s.tickFrom k) : t.tickFrom k := by
  cases e with
  | reset p by_command => exact absurd ⟨_, by_command, .inl ⟨p, rfl⟩⟩ others
  | heardRestart _ a p _ _ by_command =>
    obtain ⟨q, rfl⟩ := by_command
    exact absurd ⟨_, rfl, .inr (.inl ⟨a, p, q, rfl⟩)⟩ others
  | heardStart _ f _ _ _ by_command =>
    obtain ⟨p, rfl⟩ := by_command
    exact absurd ⟨_, rfl, .inr (.inr ⟨f, p, rfl⟩)⟩ others
  | tick => exact tickBoundary_tickFrom h
  | heardMark _ f => exact takeMark_tickFrom f.tick.toNat (by simpa [State.tickFrom] using h)
  | startupEnd =>
    unfold endStartup
    split
    · simpa [State.tickFrom] using h
    · exact h
  | markPoint => simpa [State.tickFrom, SongClock.reachMark_tick] using h
  | saturation => simpa [State.tickFrom, SongClock.saturate] using h
  | markSent => simpa [State.tickFrom, settleMark] using h
  | duplicate => exact h
  | heardStop => exact h
  | _ => simpa [State.tickFrom] using h

end Sys2Proof.Machine

namespace Sys2Proof.Proofs

open Sys2Proof.Machine

/-- Settles O24: every event keeps the clock sound, and only the events of a START and a reset turn its tick back. -/
theorem clockInvariant : Obligations.ClockInvariant := by
  refine ⟨fun s t sound h => ?_, fun s t limit h back => ?_⟩
  · rw [clockSound_iff] at sound ⊢
    exact step_keeps (P := fun s => s.clock.soundIn s.station.state) (fun _ _ h => h) (fun _ _ _ e => e.keeps_clock) sound h
  · by_contra none_of_these
    have from_tick : s.tickFrom s.clock.tick := ⟨le_rfl, limit⟩
    have kept : t.tickFrom s.clock.tick := by
      rcases step_events h with ⟨-, chain⟩ | ⟨c, rest, waiting, chain⟩
      · exact chain.keep (fun _ _ e => e.keeps_tickFrom (by simp)) from_tick
      · refine chain.keep (fun _ _ e => e.keeps_tickFrom ?_) (by simpa [State.tickFrom] using from_tick)
        rintro ⟨i, same, which⟩
        cases same
        exact none_of_these ⟨c, rest, waiting, which⟩
    exact absurd kept.1 (Nat.not_le.mpr back)

end Sys2Proof.Proofs

namespace Sys2Proof.Machine

/-! ### What judging does to the lamps, the line and the queue -/

/-- The lamps as they were, or with a flash signalled. -/
def LampUnit.flashedTo (l l' : LampUnit) : Prop :=
  l' = l ∨ ∃ r, l' = { l with flash := some { colour := flashColour r, steps := 16, timer := 0 } }

theorem LampUnit.flashedTo.trans {l l' l'' : LampUnit} (h : l.flashedTo l') (h' : l'.flashedTo l'') : l.flashedTo l'' := by
  rcases h with rfl | ⟨r, rfl⟩
  · exact h'
  · rcases h' with rfl | ⟨r', rfl⟩
    · exact .inr ⟨r, rfl⟩
    · exact .inr ⟨r', rfl⟩

theorem LampUnit.flashedTo.pattern {l l' : LampUnit} (h : l.flashedTo l') : l'.pattern = l.pattern := by
  rcases h with rfl | ⟨r, rfl⟩ <;> rfl

/-- The frame in flight marked as one whose record was evicted (R97). -/
def LineController.condemned (l : LineController) : LineController :=
  { l with inFlight := l.inFlight.map fun f => { f with latched := f.latched.map markEvicted } }

theorem markEvicted_markEvicted (l : Latched) : markEvicted (markEvicted l) = markEvicted l := by
  rcases l with ⟨_ | _ | _, _⟩ <;> rfl

theorem LineController.condemned_condemned (l : LineController) : l.condemned.condemned = l.condemned := by
  simp [condemned, Option.map_map, Function.comp_def, markEvicted_markEvicted]

/-- What the Note Queue keeps of an entry through judging: its note. -/
def NoteEntry.note (e : NoteEntry) : Nat × NoteKind := (e.due, e.kind)

/-- What judging may do to the lamps, the line and the queue: a flash signalled, the frame in flight condemned by an
eviction, and results noted in the entries. -/
structure State.judgedTo (s t : State) : Prop where
  lamp : s.lamp.flashedTo t.lamp
  line : t.line = s.line ∨ t.line = s.line.condemned
  queue : t.queue = { s.queue with entries := t.queue.entries }
  notes : t.queue.entries.map NoteEntry.note = s.queue.entries.map NoteEntry.note

theorem State.judgedTo.trans {s t u : State} (h : s.judgedTo t) (h' : t.judgedTo u) : s.judgedTo u where
  lamp := h.lamp.trans h'.lamp
  line := by
    rcases h.line with same | condemned <;> rcases h'.line with same' | condemned'
    · exact .inl (same'.trans same)
    · exact .inr (same ▸ condemned')
    · exact .inr (same'.trans condemned)
    · exact .inr (by rw [condemned', condemned, LineController.condemned_condemned])
  queue := by rw [h'.queue, h.queue]
  notes := h'.notes.trans h.notes

theorem State.judgedTo.of_same {s t : State} (lamp : t.lamp = s.lamp) (line : t.line = s.line) (queue : t.queue = s.queue) :
    s.judgedTo t :=
  ⟨.inl lamp, .inl line, by rw [queue], by rw [queue]⟩

theorem State.judgedTo.refl (s : State) : s.judgedTo s := .of_same rfl rfl rfl
theorem State.judgedTo.updateEntry {s t : State} (h : s.judgedTo t) (due : Nat) (f : NoteEntry → NoteEntry)
    (note : ∀ e, (f e).note = e.note := by intro; rfl) : s.judgedTo (updateEntry due f t) := by
  refine h.trans ⟨.inl rfl, .inl rfl, rfl, ?_⟩
  simp only [Machine.updateEntry, State.setQueue_queue, List.map_map, List.map_inj_left, Function.comp_apply]
  intro e _
  split
  · exact note e
  · rfl

theorem State.judgedTo.addItem {s t : State} (h : s.judgedTo t) (kind : ItemKind) (due : Nat) :
    s.judgedTo (addItem kind due t) :=
  h.trans (.of_same (by simp) (by simp) (by simp))

theorem State.judgedTo.signalFlash {s t : State} (h : s.judgedTo t) (r : JudgeResult) : s.judgedTo (signalFlash r t) :=
  h.trans ⟨.inr ⟨r, rfl⟩, .inl rfl, rfl, rfl⟩

theorem condemnInFlight_line (s : State) : (condemnInFlight s).line = s.line.condemned := rfl

theorem evict_line (key : Nat) (s : State) : (evict key s).line = s.line ∨ (evict key s).line = s.line.condemned := by
  unfold evict
  split
  · exact .inl rfl
  · split
    · split
      · exact .inr rfl
      · exact .inl rfl
    · exact .inl rfl

theorem makeRoom_line (s : State) : (makeRoom s).line = s.line ∨ (makeRoom s).line = s.line.condemned := by
  unfold makeRoom
  split
  · split
    · exact evict_line _ s
    · exact .inl rfl
  · exact .inl rfl

theorem State.judgedTo.tellChord {s t : State} (h : s.judgedTo t) (e : NoteEntry) (g : Grade) :
    s.judgedTo (tellChord e g t) := by
  refine h.trans ⟨.inl (by simp), ?_, by simp, by simp⟩
  unfold Machine.tellChord
  split
  · exact .inl rfl
  · split
    · exact .inl rfl
    · simpa using makeRoom_line t

theorem State.judgedTo.setClock {s t : State} (h : s.judgedTo t) (c : SongClock) : s.judgedTo (t.setClock c) :=
  h.trans (.of_same rfl rfl rfl)

theorem State.judgedTo.setSense {s t : State} (h : s.judgedTo t) (x : SenseUnit) : s.judgedTo (t.setSense x) :=
  h.trans (.of_same rfl rfl rfl)

theorem resolveTap_judged (e : NoteEntry) (h : HeadResult) (s : State) : s.judgedTo (resolveTap e h s) := by
  simp only [resolveTap]
  exact ((((State.judgedTo.refl s).updateEntry _ _).tellChord _ _).addItem _ _).signalFlash _

theorem State.judgedTo.resolveTail {s t : State} (h : s.judgedTo t) (due : Nat) (r : HoldResult) :
    s.judgedTo (resolveTail due r t) := by
  simp only [Machine.resolveTail]
  exact ((h.updateEntry _ _).addItem _ _).signalFlash _

theorem startHold_judged (e : NoteEntry) (h : HeadResult) (s : State) : s.judgedTo (startHold e h s) := by
  simp only [startHold]
  exact ((((State.judgedTo.refl s).updateEntry _ _).tellChord _ _).addItem _ _).signalFlash _

theorem strikeHold_judged (e : NoteEntry) (h : HeadResult) (length : Nat) (s : State) :
    s.judgedTo (strikeHold e h length s) := by
  simp only [strikeHold]
  split
  · exact (startHold_judged e h s).resolveTail _ _
  · exact startHold_judged e h s

theorem lapseHold_judged (e : NoteEntry) (s : State) : s.judgedTo (lapseHold e s) := by
  simp only [lapseHold]
  exact ((((((State.judgedTo.refl s).updateEntry _ _).tellChord _ _).addItem _ _).addItem _ _).signalFlash
    _).signalFlash _

theorem matchPress_judged (e : NoteEntry) (time : Nat) (s : State) : s.judgedTo (matchPress e time s) := by
  unfold matchPress
  split
  · exact resolveTap_judged _ _ s
  · exact strikeHold_judged _ _ _ s

theorem judgePress_judged (time : Nat) (s : State) : s.judgedTo (judgePress time s) := by
  unfold judgePress
  split
  · exact (State.judgedTo.refl s).updateEntry _ _
  · split
    · exact matchPress_judged _ _ s
    · exact .refl s

theorem judgeRelease_judged (time : Nat) (s : State) : s.judgedTo (judgeRelease time s) := by
  simp only [judgeRelease]
  split
  · split
    · exact ((State.judgedTo.refl s).updateEntry _ _).resolveTail _ _
    · exact (State.judgedTo.refl s).updateEntry _ _
  · exact .refl s

theorem State.judgedTo.emitPress {s t : State} (h : s.judgedTo t) (stamp : Nat) : s.judgedTo (emitPress stamp t) := by
  unfold Machine.emitPress
  split
  · exact h.trans (judgePress_judged _ t)
  · exact h

theorem State.judgedTo.emitRelease {s t : State} (h : s.judgedTo t) (stamp : Nat) :
    s.judgedTo (emitRelease stamp t) := by
  unfold Machine.emitRelease
  split
  · exact h.trans (judgeRelease_judged _ t)
  · exact h

theorem takeLapse_judged (due : Nat) (s : State) : s.judgedTo (takeLapse due s) := by
  unfold takeLapse
  split
  · split
    · split
      · exact resolveTap_judged _ _ s
      · exact lapseHold_judged _ s
    · exact .refl s
  · exact .refl s

theorem takeHoldEnd_judged (due : Nat) (s : State) : s.judgedTo (takeHoldEnd due s) := by
  unfold takeHoldEnd
  split
  · split
    · exact (State.judgedTo.refl s).resolveTail _ _
    · exact .refl s
  · exact .refl s

theorem takeGrace_judged (due : Nat) (s : State) : s.judgedTo (takeGrace due s) := by
  unfold takeGrace
  split
  · split
    · exact (State.judgedTo.refl s).resolveTail _ _
    · exact .refl s
  · exact .refl s

theorem takeThreshold_judged (x : Threshold) (s : State) : s.judgedTo (takeThreshold s x) := by
  unfold takeThreshold
  split
  · exact takeLapse_judged _ s
  · exact takeHoldEnd_judged _ s
  · exact takeGrace_judged _ s
  · exact .of_same (by simp) (by simp) (by simp)

theorem foldThresholds_judged (xs : List Threshold) (s : State) : s.judgedTo (xs.foldl takeThreshold s) := by
  induction xs generalizing s with
  | nil => exact .refl s
  | cons x xs ih => exact (takeThreshold_judged x s).trans (ih _)

theorem State.judgedTo.takeThresholds {s t : State} (h : s.judgedTo t) (old new : Nat) :
    s.judgedTo (takeThresholds old new t) := by
  unfold Machine.takeThresholds
  split
  · exact h.trans (foldThresholds_judged _ t)
  · exact h

theorem State.judgedTo.reportAdvance {s t : State} (h : s.judgedTo t) (old new : Nat) :
    s.judgedTo (reportAdvance old new t) :=
  (h.takeThresholds (t.adjust old) (t.adjust new)).trans (.of_same (by simp [Machine.reportAdvance])
    (by simp [Machine.reportAdvance]) (by simp [Machine.reportAdvance]))

theorem tickBoundary_judged (s : State) : s.judgedTo (tickBoundary s) := by
  unfold tickBoundary
  split
  · exact ((State.judgedTo.refl s).setClock _).reportAdvance _ _
  · exact .refl s

theorem correctForward_judged (m : Nat) (s : State) : s.judgedTo (correctForward m s) := by
  simp only [correctForward]
  split
  · split
    · exact ((State.judgedTo.refl s).setClock _).reportAdvance _ _
    · exact (State.judgedTo.refl s).setClock _
  · exact .refl s

theorem takeMark_judged (m : Nat) (s : State) : s.judgedTo (takeMark m s) := by
  unfold takeMark settleMark
  exact (correctForward_judged m s).setClock _

theorem detect_judged (s : State) : s.judgedTo (detect s) := by
  have set (d : Detector) : s.judgedTo (setDetector d s) := (State.judgedTo.refl s).setSense _
  unfold detect
  split
  · split
    · exact set _
    · exact .refl s
  · split
    · unfold confirmPress
      split
      · exact (set _).emitPress _
      · exact .refl s
    · exact set _
  · split
    · exact set _
    · exact .refl s
  · split <;> exact set _
  · split
    · unfold confirmRelease
      split
      · exact (set _).emitRelease _
      · exact .refl s
    · exact set _

theorem sampleDetected_judged (raws : Quad (BitVec 12)) (s : State) : s.judgedTo (sampleDetected raws s) := by
  have read : s.judgedTo (readZones raws s) := (State.judgedTo.refl s).setSense _
  unfold sampleDetected
  split
  · exact read
  · exact read.trans (detect_judged _)

theorem takeSample_judged (raws : Quad (BitVec 12)) (s : State) : s.judgedTo (takeSample raws s) := by
  have detected := sampleDetected_judged raws s
  simp only [takeSample, countSample]
  refine State.judgedTo.setSense ?_ _
  split
  · exact detected
  · exact detected.trans (.of_same (by simp) (by simp) (by simp))

/-! ### What the other operations do to the lamps -/

theorem examineClosure_flashed (sender due : Nat) (g : Grade) (s : State) :
    s.lamp.flashedTo (examineClosure sender due g s).lamp := by
  unfold examineClosure
  split
  · exact .inr ⟨.grade g, by simp [hearClosure, signalFlash]⟩
  · exact .inl rfl

theorem chordReported_flashed (j : JudgeLatch) (s : State) : s.lamp.flashedTo (chordReported j s).lamp := by
  unfold chordReported
  split
  · exact .inr ⟨j.result, by simp [signalFlash]⟩
  · exact .inl (by simp)
  · refine .inr ⟨.grade .miss, ?_⟩
    split <;> simp [signalFlash]
  · exact .inl rfl
  · exact .inl rfl
  · exact .inl rfl

/-- The end-of-frame of an own JUDGE frame but for the failure test behind it. -/
def judgeApplied (j : JudgeLatch) (s : State) : State :=
  chordReported j (entryReported j.item ((applyTallies j s).setReports (applyTallies j s).reports.tail))

theorem judgeCompleted_eq (j : JudgeLatch) (s : State) :
    judgeCompleted j s = if j.form.closes then testFailure (judgeApplied j s) else judgeApplied j s := rfl

@[simp] theorem judgeApplied_frame (j : JudgeLatch) (s : State) :
    (judgeApplied j s).powered = s.powered ∧ (judgeApplied j s).straps = s.straps ∧
    (judgeApplied j s).station = s.station ∧ (judgeApplied j s).settings = s.settings ∧
    (judgeApplied j s).sense = s.sense ∧ (judgeApplied j s).clock = s.clock ∧ (judgeApplied j s).judge = s.judge ∧
    (judgeApplied j s).line = s.line ∧ (judgeApplied j s).freeCount = s.freeCount ∧
    (judgeApplied j s).pending = s.pending := by
  simp [judgeApplied]

theorem judgeApplied_flashed (j : JudgeLatch) (s : State) : s.lamp.flashedTo (judgeApplied j s).lamp := by
  unfold judgeApplied
  refine LampUnit.flashedTo.trans (.inl ?_) (chordReported_flashed j _)
  simp

/-- The pattern is none of the settings load's, a WRITE's or a LAMP frame's. -/
@[simp] theorem loadSettings_pattern (s : State) : (loadSettings s).lamp.pattern = s.lamp.pattern := rfl

@[simp] theorem takeLamp_pattern (f : LampFrame) (clear : Bool) (s : State) :
    (takeLamp f clear s).lamp.pattern = s.lamp.pattern := by
  simp only [takeLamp, setLayer]
  split <;> split <;> rfl

@[simp] theorem takeWrite_pattern (id : Nat) (v : BitVec 16) (s : State) :
    (takeWrite id v s).lamp.pattern = s.lamp.pattern := by
  simp only [takeWrite, applyField]
  split <;> rfl

@[simp] theorem losePower_line (s : State) : (losePower s).line = s.line.dead := by simp [losePower]

@[simp] theorem LineController.dead_decision (l : LineController) : l.dead.decision = none := rfl

@[simp] theorem LineController.released_decision (l : LineController) (high : Nat) (last : Bool) :
    (l.released high last).decision = none := rfl

@[simp] theorem LineController.countHigh_decision (n : Nat) (l : LineController) : (l.countHigh n).decision = l.decision := rfl

@[simp] theorem edgeInBreak_decision (s : State) : (edgeInBreak s).line.decision = s.line.decision := rfl

@[simp] theorem beginAssembly_decision (s : State) : (beginAssembly s).line.decision = s.line.decision := rfl

@[simp] theorem flashStep_pattern (s : State) : (flashStep s).lamp.pattern = s.lamp.pattern := rfl

@[simp] theorem pwmBoundary_pattern (sensed : Quad ChannelSense) (s : State) :
    (pwmBoundary sensed s).lamp.pattern = s.lamp.pattern := rfl

@[simp] theorem cellPeriods_pattern (s : State) : (cellPeriods s).lamp.pattern = s.lamp.pattern := rfl

/-! ### Station Control in every event -/

/-- All that `stationSound` and `decisionSound` say, with a decision's part of it. -/
structure State.StationOk (s : State) : Prop where
  silence : s.station.silence.isSome = true ↔ s.station.state = .playing
  limit : ∀ n, s.station.silence = some n → n < Config.cellsPer250ms
  cause : s.station.cause ≠ .noFault ↔ s.station.state = .fault
  pattern : s.lamp.pattern = patternOf s.station.state s.station.cause
  start : s.station.startTime ≤ maxTick
  stop : s.station.endTime ≤ maxTick
  examines : ∀ d, s.line.decision = some d → s.station.state.examines = true
  startIdle : ∀ d f, s.line.decision = some d → d.frame = .start f → d.accepted = true → s.station.state = .idle

theorem stationOk_iff (s : State) : (stationSound s = true ∧ decisionSound s = true) ↔ s.StationOk := by
  constructor
  · simp only [stationSound, decisionSound, Bool.and_eq_true, decide_eq_true_eq, beq_iff_eq, and_imp]
    intro silence limit cause pattern start stop decision
    refine ⟨by simp [silence], fun n h => ?_, ?_, pattern, start, stop, fun d h => ?_, fun d f h frame accepted => ?_⟩
    · simpa [h] using limit
    · rw [← bne_iff_ne, cause, beq_iff_eq]
    · simp only [h, Option.all_some, Bool.and_eq_true] at decision
      exact decision.1
    · simp only [h, frame, Option.all_some, Bool.and_eq_true, implies_iff, beq_iff_eq] at decision
      exact decision.2 accepted
  · rintro ⟨silence, limit, cause, pattern, start, stop, examines, startIdle⟩
    simp only [stationSound, decisionSound, Bool.and_eq_true, decide_eq_true_eq, beq_iff_eq]
    refine ⟨⟨⟨⟨⟨⟨?_, ?_⟩, ?_⟩, pattern⟩, start⟩, stop⟩, ?_⟩
    · rw [Bool.eq_iff_iff, silence, beq_iff_eq]
    · simpa [Option.all_eq_true] using limit
    · rw [Bool.eq_iff_iff, bne_iff_ne, cause, beq_iff_eq]
    · rw [Option.all_eq_true]
      intro d h
      rw [Bool.and_eq_true]
      refine ⟨examines d h, ?_⟩
      split
      · simpa using startIdle d _ h ‹_›
      · rfl

/-- Events that leave the station registers and the pattern, and take no new decision. -/
theorem State.StationOk.of_same {s t : State} (h : s.StationOk) (station : t.station = s.station)
    (pattern : t.lamp.pattern = s.lamp.pattern) (decision : ∀ d, t.line.decision = some d → s.line.decision = some d) :
    t.StationOk where
  silence := by rw [station]; exact h.silence
  limit := by rw [station]; exact h.limit
  cause := by rw [station]; exact h.cause
  pattern := by rw [pattern, station]; exact h.pattern
  start := by rw [station]; exact h.start
  stop := by rw [station]; exact h.stop
  examines := fun d held => by rw [station]; exact h.examines d (decision d held)
  startIdle := fun d f held => by rw [station]; exact h.startIdle d f (decision d held)

theorem State.StationOk.cause_eq {s : State} (h : s.StationOk) (working : s.station.state ≠ .fault) :
    s.station.cause = .noFault := by
  by_contra cause
  exact working (h.cause.mp cause)

/-- Entry to a state without silence timer, from a state outside FAULT; a decision held goes on, if frames are examined
on both sides and no START is about to be taken. -/
theorem State.StationOk.entered {s t : State} (h : s.StationOk) {st : StationState} (working : s.station.state ≠ .fault)
    (station : t.station = { s.station with state := st, silence := none }) (notPlaying : st ≠ .playing)
    (notFault : st ≠ .fault) (pattern : t.lamp.pattern = patternOf st .noFault)
    (decision : t.line.decision = none ∨
      t.line.decision = s.line.decision ∧ st.examines = true ∧ s.station.state ≠ .idle) : t.StationOk := by
  have cause := h.cause_eq working
  refine ⟨?_, ?_, ?_, ?_, ?_, ?_, fun d held => ?_, fun d f held frame accepted => ?_⟩
  · simp [station, notPlaying]
  · simp [station]
  · simp [station, cause, notFault]
  · simp [station, cause, pattern]
  · simpa [station] using h.start
  · simpa [station] using h.stop
  · rcases decision with none | ⟨-, examines, -⟩
    · simp [none] at held
    · simpa [station] using examines
  · rcases decision with none | ⟨same, -, notIdle⟩
    · simp [none] at held
    · exact absurd (h.startIdle d f (same ▸ held) frame accepted) notIdle

theorem StationState.ne_fault_of_judges {st : StationState} (h : st.judges = true) : st ≠ .fault ∧ st ≠ .idle := by
  cases st <;> simp_all [judges]

theorem enterLost_stationOk {s : State} (playing : s.station.state = .playing) (h : s.StationOk) : (enterLost s).StationOk :=
  h.entered (st := .lost) (by simp [playing]) rfl nofun nofun rfl (.inr ⟨rfl, rfl, by simp [playing]⟩)

theorem testFailure_stationOk {s : State} (h : s.StationOk) : (testFailure s).StationOk := by
  unfold testFailure
  split
  · rename_i fails
    obtain ⟨working, notIdle⟩ := StationState.ne_fault_of_judges fails.1
    exact h.entered (st := .failed) working rfl nofun nofun rfl (.inr ⟨rfl, rfl, notIdle⟩)
  · exact h

theorem examineDone_stationOk {s : State} (h : s.StationOk) : (examineDone s).StationOk := by
  unfold examineDone
  split
  · rename_i done
    refine h.entered (st := .done) (by simp [done.1]) rfl nofun nofun ?_ (.inr ⟨rfl, rfl, by simp [done.1]⟩)
    simpa [done.1, patternOf] using h.pattern
  · exact h

@[simp] theorem enterFault_station (cause : FaultCause) (s : State) :
    (enterFault cause s).station = { s.station with state := .fault, cause := cause, silence := none } := rfl

@[simp] theorem enterFault_lamp (cause : FaultCause) (s : State) :
    (enterFault cause s).lamp = { s.lamp with pattern := cause.pattern, patternTimer := 0 } := rfl

@[simp] theorem enterFault_line (cause : FaultCause) (s : State) : (enterFault cause s).line = s.line.cutOff := rfl

@[simp] theorem LineController.cutOff_decision (l : LineController) : l.cutOff.decision = none := rfl

theorem enterFault_stationOk {s : State} {cause : FaultCause} (real : cause ≠ .noFault) (h : s.StationOk) :
    (enterFault cause s).StationOk := by
  refine ⟨by simp, by simp, by simpa using real, by simp [patternOf], ?_, ?_, by simp, by simp⟩
  · simpa using h.start
  · simpa using h.stop

theorem heardFrame_stationOk {s : State} (h : s.StationOk) : (heardFrame s).StationOk := by
  have told {st : StationState} (state : s.station.state = st) (judges : st.judges = true) {t : State}
      (station : t.station = { s.station with state := .playing, silence := some 0 })
      (pattern : t.lamp.pattern = .noPattern) (line : t.line = s.line) : t.StationOk := by
    obtain ⟨working, notIdle⟩ := StationState.ne_fault_of_judges judges
    refine ⟨by simp [station], ?_, ?_, by simp [station, pattern, patternOf], by simpa [station] using h.start,
      by simpa [station] using h.stop, by simp [station, StationState.examines], fun d f held frame accepted => ?_⟩
    · simp [station, Config.cellsPer250ms]
    · simp [station, h.cause_eq (state ▸ working)]
    · exact absurd (h.startIdle d f (line ▸ held) frame accepted) (state ▸ notIdle)
  unfold heardFrame
  split
  · rename_i state
    exact told state rfl rfl (by simpa [patternOf, state] using h.pattern) rfl
  · exact told ‹_› rfl rfl rfl rfl
  · exact h

/-- Judging leaves a decision held as it is. -/
theorem State.judgedTo.decision {s t : State} (h : s.judgedTo t) : t.line.decision = s.line.decision := by
  rcases h.line with same | condemned
  · rw [same]
  · rw [condemned]; rfl

theorem State.StationOk.of_judged {s t : State} (h : s.StationOk) (judged : s.judgedTo t) (station : t.station = s.station) :
    t.StationOk :=
  h.of_same station judged.lamp.pattern fun _ held => judged.decision ▸ held

theorem reportAdvance_stationOk {s : State} (old new : Nat) (h : s.StationOk) : (reportAdvance old new s).StationOk :=
  examineDone_stationOk (h.of_judged ((State.judgedTo.refl s).takeThresholds _ _) (by simp))

theorem tickBoundary_stationOk {s : State} (h : s.StationOk) : (tickBoundary s).StationOk := by
  unfold tickBoundary
  split
  · exact reportAdvance_stationOk _ _ (h.of_same rfl rfl fun _ => id)
  · exact h

theorem takeMark_stationOk {s : State} (m : Nat) (h : s.StationOk) : (takeMark m s).StationOk := by
  have stepped : (s.setClock (s.clock.stepTo (markTarget m))).StationOk := h.of_same rfl rfl fun _ => id
  have forward : (correctForward m s).StationOk := by
    simp only [correctForward]
    split
    · split
      · exact reportAdvance_stationOk _ _ stepped
      · exact stepped
    · exact h
  exact forward.of_same rfl rfl fun _ => id

theorem heardEnd_stationOk {s : State} (h : s.StationOk) : (heardEnd s).StationOk := h.of_same rfl rfl nofun

theorem adopt_stationOk {s : State} (sender : Nat) (k : Carried) (h : s.StationOk) : (adopt sender k s).StationOk := by
  unfold adopt
  split
  · exact testFailure_stationOk (h.of_same rfl rfl fun _ => id)
  · exact h

theorem closureEffect_stationOk {s : State} (k : ClosureFrame) (h : s.StationOk) : (closureEffect k s).StationOk :=
  adopt_stationOk _ _ <| h.of_same (by simp) (examineClosure_flashed _ _ _ s).pattern (by simp)

theorem completeReport_stationOk {s : State} (l : Latch) (h : s.StationOk) : (completeReport l s).StationOk := by
  cases l with
  | judge j =>
    have applied : (judgeApplied j s).StationOk := h.of_same (by simp) (judgeApplied_flashed j s).pattern (by simp)
    simp only [completeReport, judgeCompleted_eq]
    split
    · exact testFailure_stationOk applied
    · exact applied
  | mark | status => exact h

theorem takeStart_stationOk {s : State} (f : StartFrame) (idle : s.station.state = .idle) (undecided : s.line.decision = none)
    (h : s.StationOk) : (takeStart f s).StationOk := by
  have cause := h.cause_eq (by simp [idle])
  have start := f.startTime.isLt
  have stop := f.endTime.isLt
  refine ⟨by simp [takeStart], by simp [takeStart, Config.cellsPer250ms], by simp [takeStart, cause], ?_, ?_, ?_,
    by simp [takeStart, undecided], by simp [takeStart, undecided]⟩
  · simpa [takeStart, patternOf, idle] using h.pattern
  · simp only [takeStart, maxTick]; omega
  · simp only [takeStart, maxTick]; omega

/-- A reset leaves every block at its reset values but for the straps, the Settings Store and the queue of commands. -/
theorem resetStation_eq (p : Straps) (s : State) :
    resetStation p s = { State.reset with
      straps := p, settings := (abandonStore s).settings, freeCount := (abandonStore s).freeCount, pending := s.pending } := by
  simp [resetStation, State.reset]

theorem reset_stationOk : State.reset.StationOk := (stationOk_iff _).mp (by decide)

theorem resetStation_stationOk (p : Straps) (s : State) : (resetStation p s).StationOk := by
  rw [resetStation_eq]
  exact reset_stationOk.of_same rfl rfl fun _ => id

theorem endStartup_stationOk {s : State} (sampled : s.startupOver = true) (h : s.StationOk) : (endStartup s).StationOk := by
  unfold endStartup
  split
  · simp only [State.startupOver, Bool.and_eq_true, decide_eq_true_eq] at sampled
    refine h.entered (st := .idle) (by simp [sampled.1]) rfl nofun nofun ?_ (.inr ⟨rfl, rfl, by simp [sampled.1]⟩)
    simpa [sampled.1, patternOf] using h.pattern
  · exact enterFault_stationOk nofun h

theorem decideFrame_stationOk {s : State} (ahead : Bool) (f : Frame) (examines : s.station.state.examines = true)
    (h : s.StationOk) : (decideFrame ahead f s).StationOk := by
  refine ⟨h.silence, h.limit, h.cause, h.pattern, h.start, h.stop, fun _ _ => examines, ?_⟩
  rintro d g held frame accepted
  simp only [decideFrame, State.setLine_line, Option.some.injEq] at held
  subst held
  simp only at frame
  subst frame
  simp only [accepts, acceptsStart, Bool.and_eq_true, beq_iff_eq] at accepted
  exact accepted.1

/-- Every event keeps Station Control sound. -/
theorem Event.keeps_stationOk {c : Option Instr} {s t : State} (e : Event c s t) (h : s.StationOk) : t.StationOk := by
  cases e with
  | reset p => exact resetStation_stationOk p s
  | heardRestart _ _ p => exact resetStation_stationOk p _
  | startupEnd sampled => exact endStartup_stationOk sampled h
  | silence playing => exact enterLost_stationOk playing h
  | duplicate => exact enterFault_stationOk nofun h
  | told => exact heardFrame_stationOk h
  | tick => exact tickBoundary_stationOk h
  | threshold x => exact h.of_judged (takeThreshold_judged x s) (by simp)
  | sample raws => exact h.of_judged (takeSample_judged raws s) (by simp)
  | decided ahead f examines => exact decideFrame_stationOk ahead f examines h
  | heardMark _ f => exact takeMark_stationOk _ (heardEnd_stationOk h)
  | heardClosure _ k => exact closureEffect_stationOk k (heardEnd_stationOk h)
  | heardTail => exact adopt_stationOk _ _ (heardEnd_stationOk h)
  | reportSent _ l => exact completeReport_stationOk _ (h.of_same rfl rfl nofun)
  | heardStart d f held frame accepted =>
    exact takeStart_stationOk f (h.startIdle d f held frame accepted) rfl (heardEnd_stationOk h)
  | heardStop d held =>
    have examines := h.examines d held
    refine h.entered (st := .idle) (fun fault => ?_) rfl nofun nofun rfl (.inl rfl)
    simp [fault, StationState.examines] at examines
  | silenceCell n timer limit =>
    refine ⟨?_, ?_, h.cause, h.pattern, h.start, h.stop, h.examines, h.startIdle⟩
    · simpa [timer] using h.silence
    · simpa using limit
  | otherHalf =>
    refine h.of_same (by simp) ?_ (by simp)
    unfold Machine.otherHalf
    split <;> rfl
  | patternCell =>
    refine h.of_same (by simp) ?_ (by simp)
    unfold cellPattern
    split <;> rfl
  | contend src rivals =>
    refine h.of_same (by simp) (by simp) ?_
    simp only [Machine.contend]
    split <;> simp
  | losePower => exact h.of_same (by simp) (by simp [Machine.losePower, LampUnit.dark]) (by simp)
  | ended | unread | heardNote | heardMember | heardLamp | heardWrite | heardStore | heardQuery | abort | markSent |
      statusSent => exact h.of_same (by simp) (by simp) (by simp [heardEnd, ownFrameEnded, abortFrame, takeQuery])
  | _ => exact h.of_same (by simp) (by simp) (by simp)

end Sys2Proof.Machine

namespace Sys2Proof.Proofs

open Sys2Proof.Machine

/-- Settles O44: every event keeps Station Control and the decision held sound. -/
theorem stationInvariant : Obligations.StationInvariant := by
  intro s t station decision h
  rw [stationOk_iff]
  exact step_keeps (P := State.StationOk) (fun _ _ h => h.of_same rfl rfl fun _ => id) (fun _ _ _ e => e.keeps_stationOk)
    ((stationOk_iff s).mp ⟨station, decision⟩) h

end Sys2Proof.Proofs

namespace Sys2Proof.Machine

/-! ### Ranges of the settings -/

theorem colourSound_iff (c : Quad Nat) : colourSound c = true ↔ ∀ i, c.get i ≤ 4095 := by
  simp [colourSound, Quad.all_iff]

theorem Settings.sound_iff (c : Settings) :
    c.sound = true ↔ c.press ≤ 16380 ∧ c.release ≤ 16380 ∧ c.zoneSet ≤ 15 ∧ -400 ≤ c.inputOffset ∧ c.inputOffset ≤ 400 ∧
      colourSound c.idleColour = true ∧ colourSound c.pressColour = true := by
  simp only [Settings.sound, Bool.and_eq_true, decide_eq_true_eq, and_assoc]

theorem Settings.defaults_sound : Settings.defaults.sound = true := by decide

theorem clampInt_range (lo hi x : Int) (h : lo ≤ hi) : lo ≤ clampInt lo hi x ∧ clampInt lo hi x ≤ hi := by
  unfold clampInt
  omega

/-- A field written keeps the settings in their ranges, since its value is clamped (R127). -/
theorem Settings.write_sound (c : Settings) (id : Nat) (v : BitVec 16) (h : c.sound = true) : (c.write id v).sound = true := by
  rw [sound_iff] at h ⊢
  obtain ⟨press, release, zoneSet, low, high, idle, pressed⟩ := h
  simp only [colourSound, Quad.all, Bool.and_eq_true, decide_eq_true_eq] at idle pressed ⊢
  have offset := clampInt_range (-400) 400 v.toInt (by decide)
  unfold write
  dsimp only
  split <;> grind

theorem NvCopy.settings_sound (n : NvCopy) : n.settings.sound = true := by
  have fold (ids : List Nat) (c : Settings) (h : c.sound = true) :
      (ids.foldl (fun c id => c.write id (n.fields.getD id 0)) c).sound = true := by
    induction ids generalizing c with
    | nil => exact h
    | cons id ids ih => exact ih _ (c.write_sound id _ h)
  exact fold fieldIds _ Settings.defaults_sound

/-- All that `settingsSound` reads. -/
def SettingsStore.rangesOk (x : SettingsStore) : Prop :=
  x.working.sound = true ∧ ∀ j, x.job = some j → j.snapshot.sound = true

theorem settingsSound_iff (s : State) : settingsSound s = true ↔ s.settings.rangesOk := by
  simp [settingsSound, SettingsStore.rangesOk, Option.all_eq_true]

theorem abandonStore_rangesOk {s : State} (h : s.settings.rangesOk) : (abandonStore s).settings.rangesOk := by
  unfold abandonStore
  split
  · exact ⟨h.1, nofun⟩
  · exact h

/-- The settings a load takes: those of the copy, or the defaults. -/
def loadedSettings (s : State) : Settings := if s.settings.nv.holds then s.settings.nv.settings else Settings.defaults

theorem loadedSettings_sound (s : State) : (loadedSettings s).sound = true := by
  unfold loadedSettings
  split
  · exact s.settings.nv.settings_sound
  · exact Settings.defaults_sound

theorem loadSettings_settings (s : State) : (loadSettings s).settings =
    { s.settings with working := loadedSettings s, defaulted := !s.settings.nv.holds } := rfl

theorem loadSettings_sense (s : State) : (loadSettings s).sense =
    { s.sense with zones := Quad.zip loadedZone (zoneFlags (loadedSettings s).zoneSet) s.sense.zones,
                   sampleTimer := some Config.cellsPerSample } := rfl

theorem loadSettings_lamp (s : State) : (loadSettings s).lamp =
    { s.lamp with base := (loadedSettings s).idleColour, press := (loadedSettings s).pressColour } := rfl

theorem losePower_settings (s : State) : (losePower s).settings = (abandonStore s).settings := by simp [losePower]

theorem takeWrite_settings (id : Nat) (v : BitVec 16) (s : State) :
    (takeWrite id v s).settings = { s.settings with working := s.settings.working.write id v } := by
  simp [takeWrite]

/-- Every event keeps the settings in their ranges. -/
theorem Event.keeps_settings {c : Option Instr} {s t : State} (e : Event c s t) (h : s.settings.rangesOk) :
    t.settings.rangesOk := by
  cases e with
  | reset => exact abandonStore_rangesOk h
  | heardRestart => exact abandonStore_rangesOk h
  | losePower => exact losePower_settings s ▸ abandonStore_rangesOk h
  | load => exact ⟨loadedSettings_sound s, h.2⟩
  | storeComplete =>
    unfold completeStore
    split
    · exact ⟨h.1, nofun⟩
    · exact h
  | heardStore =>
    refine ⟨h.1, fun j held => ?_⟩
    simp only [beginStore, State.setSettings_settings, Option.some.injEq] at held
    exact held ▸ h.1
  | heardWrite _ f => exact takeWrite_settings _ _ _ ▸ ⟨Settings.write_sound _ _ _ h.1, h.2⟩
  | storeCell j busy =>
    refine ⟨h.1, fun k held => ?_⟩
    simp only [State.setSettings_settings, Option.some.injEq] at held
    exact held ▸ h.2 j busy
  | _ => simpa using h

/-! ### Ranges of the judging windows -/

theorem windowsSound_iff (j : JudgeParams) : windowsSound j = true ↔
    4 ≤ j.e ∧ j.e + 4 ≤ j.t ∧ j.t + 4 ≤ j.n ∧ j.n + 4 ≤ j.w ∧ j.w ≤ 800 ∧ j.g ≤ 1020 ∧ j.g % 4 = 0 := by
  simp only [windowsSound, Bool.and_eq_true, decide_eq_true_eq, and_assoc]

theorem startParams_sound (f : StartFrame) : windowsSound (startParams f) = true := by
  rcases up : clampUp (4 * f.e.toNat) (4 * f.t.toNat) (4 * f.n.toNat) (4 * f.w.toNat) with ⟨e, t, n, w⟩
  rcases down : clampDown e t n w with ⟨e', t', n', w'⟩
  have params : startParams f = ⟨e', t', n', w', 4 * f.grace.toNat⟩ := by simp [startParams, up, down]
  obtain ⟨he, ht, hn, hw, limit⟩ := clampDown_order down (clampUp_order up)
  have grace := f.grace.isLt
  rw [params, windowsSound_iff]
  exact ⟨he, ht, hn, hw, limit, by dsimp only; omega, by dsimp only; omega⟩

/-- Every event keeps the windows in order: only a START and a reset set them. -/
theorem Event.keeps_windows {c : Option Instr} {s t : State} (e : Event c s t) (h : windowsSound s.judge = true) :
    windowsSound t.judge = true := by
  cases e with
  | reset => exact (by decide : windowsSound .atReset = true)
  | heardRestart => exact (by decide : windowsSound .atReset = true)
  | heardStart _ f => exact startParams_sound f
  | heardStop => exact h
  | _ => simpa using h

end Sys2Proof.Machine

namespace Sys2Proof.Machine

/-! ### Ranges of the Sense Unit -/

theorem ZoneRecord.sound_iff (z : ZoneRecord) : z.sound = true ↔
    z.raw ≤ 4095 ∧ z.baseline ≤ 4095 ∧ z.railCount ≤ 200 ∧ z.insideCount ≤ 200 ∧
      (z.condition ≠ .healthy → z.railCount = 0) ∧ (z.condition ≠ .faulty → z.insideCount = 0) := by
  simp [ZoneRecord.sound, and_assoc]

theorem ZoneRecord.uncounted_iff (z : ZoneRecord) : z.uncounted = true ↔ z.railCount = 0 ∧ z.insideCount = 0 := by
  simp [uncounted]

theorem ZoneRecord.reachFault_sound {z : ZoneRecord} (h : z.sound = true) : z.reachFault.sound = true := by
  unfold reachFault
  split
  · simp only [sound_iff] at h ⊢; simp [h.1, h.2.1]
  · exact h

theorem ZoneRecord.reachRecovery_sound {z : ZoneRecord} (h : z.sound = true) : z.reachRecovery.sound = true := by
  unfold reachRecovery
  split
  · simp only [sound_iff] at h ⊢; simp [h.1]
  · exact h

theorem ZoneRecord.reachFault_uncounted {z : ZoneRecord} (h : z.uncounted = true) : z.reachFault.uncounted = true := by
  unfold reachFault
  split
  · rfl
  · exact h

theorem ZoneRecord.reachRecovery_uncounted {z : ZoneRecord} (h : z.uncounted = true) : z.reachRecovery.uncounted = true := by
  unfold reachRecovery
  split
  · rfl
  · exact h

/-- A reading taken keeps a zone in its ranges: a count that would pass 200 changes the condition and is cleared. -/
theorem ZoneRecord.takeReading_sound {z : ZoneRecord} {raw : Nat} (h : z.sound = true) (range : raw ≤ 4095) :
    (z.takeReading raw).sound = true := by
  obtain ⟨-, baseline, rail, inside, noRail, noInside⟩ := z.sound_iff.mp h
  unfold takeReading
  dsimp only
  split
  · rename_i condition
    unfold reachFault
    split <;> simp only [sound_iff, zoneCount] at * <;> grind
  · rename_i condition
    unfold reachRecovery
    split <;> simp only [sound_iff, zoneCount] at * <;> grind
  · rename_i condition
    simp only [sound_iff]
    grind

theorem ZoneRecord.rebase_sound {z : ZoneRecord} (h : z.sound = true) : z.rebase.sound = true := by
  simp only [rebase, sound_iff] at h ⊢
  exact ⟨h.1, h.1, h.2.2⟩

theorem ZoneRecord.track_sound {z : ZoneRecord} (h : z.sound = true) : z.track.sound = true := by
  unfold track
  split
  · simp only [sound_iff] at h
    split
    · simp only [sound_iff]; grind
    · split
      · simp only [sound_iff]; grind
      · simpa only [sound_iff] using h
  · exact h
  · exact h

theorem ZoneRecord.setFlag_sound {z : ZoneRecord} (old new : Bool) (h : z.sound = true) : (z.setFlag old new).sound = true := by
  unfold setFlag
  simp only [sound_iff] at h
  split
  · simp [sound_iff, h.1, h.2.1]
  · simp [sound_iff, h.1]
  · simpa only [sound_iff] using h

theorem ZoneRecord.setFlag_uncounted {z : ZoneRecord} (old new : Bool) (h : z.uncounted = true) :
    (z.setFlag old new).uncounted = true := by
  unfold setFlag
  split
  · rfl
  · rfl
  · exact h

theorem loadedZone_sound {z : ZoneRecord} (on : Bool) (h : z.sound = true) (uncounted : z.uncounted = true) :
    (loadedZone on z).sound = true := by
  obtain ⟨raw, baseline, -⟩ := z.sound_iff.mp h
  obtain ⟨rail, inside⟩ := z.uncounted_iff.mp uncounted
  simp [ZoneRecord.sound_iff, loadedZone, raw, baseline, rail, inside]

theorem ZoneRecord.contribution_le {z : ZoneRecord} (h : z.sound = true) : z.contribution ≤ 4095 := by
  have raw := (z.sound_iff.mp h).1
  unfold contribution
  split <;> omega

theorem loadOf_le {zones : Quad ZoneRecord} (h : ∀ i, (zones.get i).sound = true) : loadOf zones ≤ 16380 := by
  have h0 := ZoneRecord.contribution_le (h 0)
  have h1 := ZoneRecord.contribution_le (h 1)
  have h2 := ZoneRecord.contribution_le (h 2)
  have h3 := ZoneRecord.contribution_le (h 3)
  simp only [Quad.get] at h0 h1 h2 h3
  unfold loadOf
  omega

/-- All that `senseSound` says of the Sense Unit alone. -/
structure SenseUnit.RangesOk (u : SenseUnit) : Prop where
  zones : ∀ i, (u.zones.get i).sound = true
  load : u.load ≤ 16380
  drift : u.drift ≤ 15
  samples : u.samples ≤ startupSamples
  unloaded : u.sampleTimer = none → ∀ i, (u.zones.get i).uncounted = true

/-- The Sense Unit in its ranges, and the detector RELEASED through STARTUP. -/
structure State.SenseOk (s : State) : Prop where
  ranges : s.sense.RangesOk
  released : s.station.state = .startup → s.sense.detector = .released

theorem senseSound_iff (s : State) : senseSound s = true ↔ s.SenseOk := by
  constructor
  · simp only [senseSound, Bool.and_eq_true, decide_eq_true_eq, Quad.all_iff, implies_iff, beq_iff_eq,
      Option.isNone_iff_eq_none, and_imp]
    exact fun zones load drift samples released unloaded => ⟨⟨zones, load, drift, samples, unloaded⟩, released⟩
  · rintro ⟨⟨zones, load, drift, samples, unloaded⟩, released⟩
    simp only [senseSound, Bool.and_eq_true, decide_eq_true_eq, Quad.all_iff, implies_iff, beq_iff_eq,
      Option.isNone_iff_eq_none]
    exact ⟨⟨⟨⟨⟨zones, load⟩, drift⟩, samples⟩, released⟩, unloaded⟩

theorem State.SenseOk.of_same {s t : State} (h : s.SenseOk) (sense : t.sense = s.sense)
    (state : t.station.state = .startup → s.station.state = .startup) : t.SenseOk :=
  ⟨sense ▸ h.ranges, fun startup => sense ▸ h.released (state startup)⟩

/-- Zones changed one by one, each staying in its ranges and counting nothing new. -/
theorem SenseUnit.RangesOk.of_zones {u : SenseUnit} (h : u.RangesOk) {zones : Quad ZoneRecord}
    (sound : ∀ i, (zones.get i).sound = true)
    (uncounted : ∀ i, (u.zones.get i).uncounted = true → (zones.get i).uncounted = true) :
    SenseUnit.RangesOk { u with zones := zones } :=
  ⟨sound, h.load, h.drift, h.samples, fun timer i => uncounted i (h.unloaded timer i)⟩

/-! The detector's stage of a sample writes the detector alone. -/

theorem detect_sense (s : State) : (detect s).sense = { s.sense with detector := (detect s).sense.detector } := by
  unfold detect
  split
  · split <;> rfl
  · split
    · unfold confirmPress
      split <;> simp [setDetector]
    · rfl
  · split <;> rfl
  · split <;> rfl
  · split
    · unfold confirmRelease
      split <;> simp [setDetector]
    · rfl

theorem readZones_RangesOk {s : State} (raws : Quad (BitVec 12)) (h : s.sense.RangesOk) :
    (readZones raws s).sense.RangesOk := by
  have read (i : Fin 4) : ((Quad.zip (fun r z => ZoneRecord.takeReading r.toNat z) raws s.sense.zones).get i).sound = true := by
    have := (raws.get i).isLt
    simpa using ZoneRecord.takeReading_sound (h.zones i) (by omega)
  unfold readZones
  dsimp only
  split
  · have rebased (i : Fin 4) : (((Quad.zip (fun r z => ZoneRecord.takeReading r.toNat z) raws s.sense.zones).map
        ZoneRecord.rebase).get i).sound = true := by
      rw [Quad.get_map]
      exact ZoneRecord.rebase_sound (read i)
    exact ⟨rebased, loadOf_le rebased, h.drift, h.samples, nofun⟩
  · exact ⟨read, loadOf_le read, h.drift, h.samples, nofun⟩

theorem readZones_detector (raws : Quad (BitVec 12)) (s : State) :
    (readZones raws s).sense.detector = s.sense.detector := rfl

theorem detect_RangesOk {s : State} (h : s.sense.RangesOk) : (detect s).sense.RangesOk := by
  rw [detect_sense]
  exact ⟨h.zones, h.load, h.drift, h.samples, h.unloaded⟩

theorem sampleDetected_RangesOk {s : State} (raws : Quad (BitVec 12)) (h : s.sense.RangesOk) :
    (sampleDetected raws s).sense.RangesOk := by
  unfold sampleDetected
  split
  · exact readZones_RangesOk raws h
  · exact detect_RangesOk (readZones_RangesOk raws h)

theorem baselineStage_RangesOk {s : State} (timed : s.sense.sampleTimer ≠ none) (h : s.sense.RangesOk) :
    (baselineStage s).sense.RangesOk := by
  unfold baselineStage
  split
  · split
    · exact ⟨fun i => by simpa [trackBaselines] using ZoneRecord.track_sound (h.zones i), h.load, Nat.zero_le _, h.samples,
        fun none => absurd none timed⟩
    · rename_i short
      simp only [State.driftFull, decide_eq_true_eq, not_le] at short
      exact ⟨h.zones, h.load, short, h.samples, h.unloaded⟩
  · exact ⟨h.zones, h.load, Nat.zero_le _, h.samples, h.unloaded⟩

theorem sampleDetected_timer (raws : Quad (BitVec 12)) (s : State) :
    (sampleDetected raws s).sense.sampleTimer = some 0 := by
  unfold sampleDetected
  split
  · rfl
  · rw [detect_sense]; rfl

theorem countSample_RangesOk {s : State} (h : s.sense.RangesOk) : (countSample s).sense.RangesOk :=
  ⟨h.zones, h.load, h.drift, Nat.min_le_left _ _, h.unloaded⟩

theorem baselineStage_detector (s : State) : (baselineStage s).sense.detector = s.sense.detector := by
  unfold baselineStage
  split
  · split <;> rfl
  · rfl

theorem takeSample_detector (raws : Quad (BitVec 12)) (s : State) :
    (takeSample raws s).sense.detector = (sampleDetected raws s).sense.detector := by
  simp only [takeSample, countSample, State.setSense_sense]
  split
  · rfl
  · exact baselineStage_detector _

theorem takeSample_SenseOk {s : State} (raws : Quad (BitVec 12)) (h : s.SenseOk) : (takeSample raws s).SenseOk := by
  have detected := sampleDetected_RangesOk raws h.ranges
  refine ⟨?_, fun startup => ?_⟩
  · simp only [takeSample]
    refine countSample_RangesOk ?_
    split
    · exact detected
    · exact baselineStage_RangesOk (by simp [sampleDetected_timer]) detected
  · rw [(takeSample_frame raws s).2.2.1] at startup
    rw [takeSample_detector, sampleDetected, if_pos startup]
    exact h.released startup

/-! No operation but a reset enters STARTUP. -/

theorem heardFrame_startup {s : State} (h : (heardFrame s).station.state = .startup) : s.station.state = .startup := by
  unfold heardFrame at h
  split at h
  · simp [setState] at h
  · simp [setState, setPattern] at h
  · exact h

theorem testFailure_startup {s : State} (h : (testFailure s).station.state = .startup) : s.station.state = .startup := by
  unfold testFailure at h
  split at h
  · simp [enterFailed, setState, setPattern] at h
  · exact h

theorem adopt_startup {sender : Nat} {k : Carried} {s : State} (h : (adopt sender k s).station.state = .startup) :
    s.station.state = .startup := by
  unfold adopt at h
  split at h
  · simpa using testFailure_startup h
  · exact h

theorem completeReport_startup {l : Latch} {s : State} (h : (completeReport l s).station.state = .startup) :
    s.station.state = .startup := by
  cases l with
  | judge j =>
    simp only [completeReport, judgeCompleted_eq] at h
    split at h
    · simpa using testFailure_startup h
    · simpa using h
  | mark | status => exact h

theorem reportAdvance_startup {old new : Nat} {s : State} (h : (reportAdvance old new s).station.state = .startup) :
    s.station.state = .startup := by
  unfold reportAdvance examineDone at h
  split at h
  · simp [enterDone, setState] at h
  · simpa using h

theorem tickBoundary_startup {s : State} (h : (tickBoundary s).station.state = .startup) : s.station.state = .startup := by
  unfold tickBoundary at h
  split at h
  · simpa using reportAdvance_startup h
  · exact h

theorem takeMark_startup {m : Nat} {s : State} (h : (takeMark m s).station.state = .startup) :
    s.station.state = .startup := by
  simp only [takeMark, settleMark_frame, correctForward] at h
  split at h
  · split at h
    · simpa using reportAdvance_startup h
    · simpa using h
  · exact h

theorem reset_SenseOk : State.reset.SenseOk := (senseSound_iff _).mp (by decide)

theorem resetStation_SenseOk (p : Straps) (s : State) : (resetStation p s).SenseOk := by
  rw [resetStation_eq]
  exact reset_SenseOk.of_same rfl id

theorem endStartup_notStartup (s : State) : (endStartup s).station.state ≠ .startup := by
  unfold endStartup
  split <;> simp [setState]

theorem takeWrite_SenseOk {s : State} (id : Nat) (v : BitVec 16) (h : s.SenseOk) : (takeWrite id v s).SenseOk := by
  simp only [takeWrite, applyField]
  split
  · refine ⟨h.ranges.of_zones (fun i => ?_) fun i uncounted => ?_, h.released⟩
    · simpa [updateZones] using ZoneRecord.setFlag_sound _ _ (h.ranges.zones i)
    · simpa [updateZones] using ZoneRecord.setFlag_uncounted _ _ uncounted
  all_goals exact h.of_same rfl fun startup => startup

/-- Every event keeps the Sense Unit in its ranges. -/
theorem Event.keeps_sense {c : Option Instr} {s t : State} (e : Event c s t) (h : s.SenseOk) : t.SenseOk := by
  cases e with
  | reset p => exact resetStation_SenseOk p s
  | heardRestart _ _ p => exact resetStation_SenseOk p _
  | load _ startup unloaded =>
    have uncounted := h.ranges.unloaded (by simpa [State.loaded] using unloaded)
    refine ⟨?_, h.released⟩
    rw [loadSettings_sense]
    exact ⟨fun i => by simpa using loadedZone_sound _ (h.ranges.zones i) (uncounted i), h.ranges.load, h.ranges.drift,
      h.ranges.samples, nofun⟩
  | sample raws => exact takeSample_SenseOk raws h
  | zoneFault zone =>
    refine ⟨h.ranges.of_zones (fun i => ?_) fun i uncounted => ?_, h.released⟩
    · rw [Quad.get_modify]
      split
      · exact ZoneRecord.reachFault_sound (h.ranges.zones zone)
      · exact h.ranges.zones i
    · rw [Quad.get_modify]
      split
      · exact ZoneRecord.reachFault_uncounted (‹i = zone› ▸ uncounted)
      · exact uncounted
  | zoneRecovery zone =>
    refine ⟨h.ranges.of_zones (fun i => ?_) fun i uncounted => ?_, h.released⟩
    · rw [Quad.get_modify]
      split
      · exact ZoneRecord.reachRecovery_sound (h.ranges.zones zone)
      · exact h.ranges.zones i
    · rw [Quad.get_modify]
      split
      · exact ZoneRecord.reachRecovery_uncounted (‹i = zone› ▸ uncounted)
      · exact uncounted
  | periodsCell =>
    refine ⟨⟨h.ranges.zones, h.ranges.load, h.ranges.drift, h.ranges.samples, fun timer => h.ranges.unloaded ?_⟩, h.released⟩
    simpa [cellPeriods] using timer
  | heardStart => exact ⟨⟨h.ranges.zones, h.ranges.load, h.ranges.drift, h.ranges.samples, h.ranges.unloaded⟩, nofun⟩
  | heardWrite _ f => exact takeWrite_SenseOk _ _ (h.of_same rfl id)
  | startupEnd => exact h.of_same (by simp) fun startup => absurd startup (endStartup_notStartup s)
  | silence => exact h.of_same (by simp) (by simp [enterLost, setState, setPattern])
  | duplicate => exact h.of_same (by simp) (by simp)
  | told => exact h.of_same (by simp) heardFrame_startup
  | tick => exact h.of_same (by simp) tickBoundary_startup
  | reportSent => exact h.of_same (by simp) completeReport_startup
  | heardMark => exact h.of_same (by simp) takeMark_startup
  | heardStop => exact h.of_same (by simp) nofun
  | heardClosure => exact h.of_same (by simp) fun startup => by simpa using adopt_startup startup
  | heardTail => exact h.of_same (by simp) adopt_startup
  | _ => exact h.of_same (by simp) (by simp)

end Sys2Proof.Machine

namespace Sys2Proof.Machine

/-! ### Ranges of the Lamp Unit -/

theorem Flash.sound_iff (f : Flash) :
    f.sound = true ↔ colourSound f.colour = true ∧ 1 ≤ f.steps ∧ f.steps ≤ 16 ∧ f.timer < Config.cellsPerFlashStep := by
  simp only [Flash.sound, Bool.and_eq_true, decide_eq_true_eq, and_assoc]

theorem Channel.sound_iff (c : Channel) :
    c.sound = true ↔ c.duty ≤ 4095 ∧ (c.shortLatch = true → c.duty = 0) ∧ c.runCount ≤ 8 := by
  simp [Channel.sound, and_assoc]

/-- All that `lampSound` says. -/
structure LampUnit.RangesOk (l : LampUnit) : Prop where
  base : colourSound l.base = true
  press : colourSound l.press = true
  flash : ∀ f, l.flash = some f → f.sound = true
  timer : l.patternTimer < 2 * Config.cellsPer250ms
  channels : ∀ i, (l.channels.get i).sound = true

theorem lampSound_iff (s : State) : lampSound s = true ↔ s.lamp.RangesOk := by
  constructor
  · simp only [lampSound, Bool.and_eq_true, decide_eq_true_eq, Option.all_eq_true, Quad.all_iff, and_imp]
    exact fun base press flash timer channels => ⟨base, press, flash, timer, channels⟩
  · rintro ⟨base, press, flash, timer, channels⟩
    simp only [lampSound, Bool.and_eq_true, decide_eq_true_eq, Option.all_eq_true, Quad.all_iff]
    exact ⟨⟨⟨⟨base, press⟩, flash⟩, timer⟩, channels⟩

theorem flashColour_sound (r : JudgeResult) : colourSound (flashColour r) = true := by
  rcases r with (_ | _ | _ | _ | _) | (_ | _) <;> decide

theorem LampUnit.flashedTo.rangesOk {l l' : LampUnit} (flashed : l.flashedTo l') (h : l.RangesOk) : l'.RangesOk := by
  rcases flashed with rfl | ⟨r, rfl⟩
  · exact h
  · refine ⟨h.base, h.press, fun f signalled => ?_, h.timer, h.channels⟩
    cases signalled
    exact (Flash.sound_iff _).mpr ⟨flashColour_sound r, by simp, by simp, by simp [Config.cellsPerFlashStep]⟩

theorem LampUnit.RangesOk.with_pattern {l : LampUnit} (h : l.RangesOk) (p : Pattern) :
    LampUnit.RangesOk { l with pattern := p } := ⟨h.base, h.press, h.flash, h.timer, h.channels⟩

theorem Flash.step_sound {f g : Flash} (h : f.sound = true) (step : f.step = some g) : g.sound = true := by
  rw [sound_iff] at h
  unfold Flash.step at step
  split at step
  · cases step
  · cases step
    rw [sound_iff]
    exact ⟨h.1, by dsimp only; omega, by dsimp only; omega, by simp [Config.cellsPerFlashStep]⟩

theorem LampUnit.RangesOk.flashStep {s : State} (h : s.lamp.RangesOk) : (flashStep s).lamp.RangesOk := by
  refine ⟨h.base, h.press, fun g next => ?_, h.timer, h.channels⟩
  simp only [Machine.flashStep, State.setLamp_lamp, Option.bind_eq_some_iff] at next
  obtain ⟨f, present, step⟩ := next
  exact Flash.step_sound (h.flash f present) step

/-- A flash faded by its steps stays within the duties (R173). -/
theorem Flash.duties_le {f : Flash} (h : f.sound = true) (i : Fin 4) : f.duties.get i ≤ 4095 := by
  obtain ⟨colour, -, steps, -⟩ := f.sound_iff.mp h
  have full := (colourSound_iff _).mp colour i
  rw [Flash.duties, Quad.get_map]
  calc f.colour.get i * f.steps / 16 ≤ 4095 * 16 / 16 := Nat.div_le_div_right (Nat.mul_le_mul full steps)
    _ = 4095 := rfl

theorem composed_le {s : State} (h : s.lamp.RangesOk) (i : Fin 4) : (composed s).get i ≤ 4095 := by
  revert i
  rw [← colourSound_iff]
  unfold composed
  split
  · split <;> decide
  · split <;> decide
  · decide
  · decide
  · split
    · exact (colourSound_iff _).mpr (Flash.duties_le (h.flash _ ‹_›))
    · split
      · exact h.press
      · exact h.base

theorem dutiesNow_le {s : State} (h : s.lamp.RangesOk) (i : Fin 4) : s.dutiesNow.get i ≤ 4095 := by
  unfold State.dutiesNow
  split
  · exact composed_le h i
  · simp

theorem Channel.reachOpen_runCount {c : Channel} (h : c.runCount ≤ 9) : c.reachOpen.runCount ≤ 8 := by
  unfold reachOpen
  split
  · exact Nat.zero_le _
  · omega

theorem Channel.reachOpen_sound {c : Channel} (h : c.sound = true) : c.reachOpen.sound = true := by
  rw [sound_iff] at h ⊢
  refine ⟨?_, ?_, reachOpen_runCount (by omega)⟩ <;> unfold reachOpen <;> split <;> grind

/-- The end of a period moves a run count by one at most. -/
theorem Channel.endPeriod_runCount {c : Channel} (x : ChannelSense) (h : c.runCount ≤ 8) : (c.endPeriod x).runCount ≤ 8 := by
  unfold endPeriod runOn
  dsimp only
  split
  · split
    · exact reachOpen_runCount (Nat.succ_le_succ h)
    · exact Nat.zero_le _
  · exact h

theorem Channel.startPeriod_sound {c : Channel} {duty : Nat} (range : duty ≤ 4095) (count : c.runCount ≤ 8) :
    (c.startPeriod duty).sound = true := by
  rw [sound_iff]
  unfold startPeriod
  refine ⟨?_, fun latched => by simp_all, count⟩
  dsimp only
  split <;> omega

theorem pwmBoundary_rangesOk {s : State} (sensed : Quad ChannelSense) (h : s.lamp.RangesOk) :
    (pwmBoundary sensed s).lamp.RangesOk := by
  refine ⟨h.base, h.press, h.flash, h.timer, fun i => ?_⟩
  simp only [pwmBoundary, State.setLamp_lamp, Quad.get_zip]
  exact Channel.startPeriod_sound (dutiesNow_le h i) (Channel.endPeriod_runCount _ ((Channel.sound_iff _).mp (h.channels i)).2.2)

theorem LampUnit.RangesOk.of_channels {l : LampUnit} (h : l.RangesOk) {channels : Quad Channel}
    (sound : ∀ i, (channels.get i).sound = true) : LampUnit.RangesOk { l with channels := channels } :=
  ⟨h.base, h.press, h.flash, h.timer, sound⟩

theorem otherHalf_rangesOk {s : State} (h : s.lamp.RangesOk) : (otherHalf s).lamp.RangesOk := by
  unfold otherHalf
  split
  · refine ⟨h.base, h.press, h.flash, ?_, h.channels⟩
    simp only [State.setLamp_lamp, Config.cellsPer250ms]
    split <;> omega
  · exact h

theorem cellPattern_rangesOk {s : State} (h : s.lamp.RangesOk) : (cellPattern s).lamp.RangesOk := by
  unfold cellPattern
  split
  · refine ⟨h.base, h.press, h.flash, ?_, h.channels⟩
    dsimp only [State.setLamp]
    split
    · decide
    · exact Nat.lt_of_not_le ‹_›
  · exact h

theorem LampUnit.dark_rangesOk {l : LampUnit} (h : l.RangesOk) : l.dark.RangesOk := by
  refine h.of_channels fun i => ?_
  have count := ((Channel.sound_iff _).mp (h.channels i)).2.2
  simpa [Channel.sound_iff] using count

theorem takeLamp_rangesOk {s : State} (f : LampFrame) (clear : Bool) (h : s.lamp.RangesOk) :
    (takeLamp f clear s).lamp.RangesOk := by
  have colour : colourSound (f.colour.map BitVec.toNat) = true := by
    rw [colourSound_iff]
    intro i
    have := (f.colour.get i).isLt
    rw [Quad.get_map]
    omega
  have painted : (setLayer f.layer (f.colour.map BitVec.toNat) s).lamp.RangesOk := by
    unfold setLayer
    split
    · exact ⟨colour, h.press, h.flash, h.timer, h.channels⟩
    · exact ⟨h.base, colour, h.flash, h.timer, h.channels⟩
  simp only [takeLamp]
  split
  · refine painted.of_channels fun i => ?_
    have := (Channel.sound_iff _).mp (painted.channels i)
    simpa [Channel.sound_iff] using ⟨this.1, this.2.2⟩
  · exact painted

theorem takeWrite_rangesOk {s : State} (id : Nat) (v : BitVec 16) (settings : s.settings.working.sound = true)
    (h : s.lamp.RangesOk) : (takeWrite id v s).lamp.RangesOk := by
  obtain ⟨-, -, -, -, -, idle, press⟩ := (Settings.sound_iff _).mp (s.settings.working.write_sound id v settings)
  have base := h.base
  have pressed := h.press
  simp only [colourSound, Quad.all, Bool.and_eq_true, decide_eq_true_eq] at idle press base pressed
  simp only [takeWrite]
  generalize s.settings.working.write id v = new at idle press
  unfold applyField
  split
  case h_1 | h_10 => exact h
  all_goals
    refine ⟨?_, ?_, h.flash, h.timer, h.channels⟩ <;>
      simp only [State.setLamp_lamp, State.setSettings_lamp, colourSound, Quad.all, Bool.and_eq_true, decide_eq_true_eq,
        idle, press, base, pressed, and_self]

theorem enterFailed_lamp (s : State) : (enterFailed s).lamp = { s.lamp with pattern := .failed } := rfl

theorem testFailure_rangesOk {s : State} (h : s.lamp.RangesOk) : (testFailure s).lamp.RangesOk := by
  unfold testFailure
  split
  · exact h.with_pattern .failed
  · exact h

theorem heardFrame_rangesOk {s : State} (h : s.lamp.RangesOk) : (heardFrame s).lamp.RangesOk := by
  unfold heardFrame
  split
  · exact h
  · exact h.with_pattern .noPattern
  · exact h

theorem enterFault_rangesOk {s : State} (cause : FaultCause) (h : s.lamp.RangesOk) : (enterFault cause s).lamp.RangesOk :=
  ⟨h.base, h.press, h.flash, by simp [Config.cellsPer250ms], h.channels⟩

theorem adopt_rangesOk {s : State} (sender : Nat) (k : Carried) (h : s.lamp.RangesOk) : (adopt sender k s).lamp.RangesOk := by
  unfold adopt
  split
  · exact testFailure_rangesOk h
  · exact h

theorem completeReport_rangesOk {s : State} (l : Latch) (h : s.lamp.RangesOk) : (completeReport l s).lamp.RangesOk := by
  cases l with
  | judge j =>
    have applied := (judgeApplied_flashed j s).rangesOk h
    simp only [completeReport, judgeCompleted_eq]
    split
    · exact testFailure_rangesOk applied
    · exact applied
  | mark | status => exact h

theorem reset_lamp_rangesOk : State.reset.lamp.RangesOk := (lampSound_iff _).mp (by decide)

/-- Every event keeps the lamps in their ranges, given settings in theirs. -/
theorem Event.keeps_lamp {c : Option Instr} {s t : State} (e : Event c s t) (settings : s.settings.rangesOk)
    (h : s.lamp.RangesOk) : t.lamp.RangesOk := by
  cases e with
  | reset => exact reset_lamp_rangesOk
  | heardRestart => exact reset_lamp_rangesOk
  | load =>
    obtain ⟨-, -, -, -, -, idle, press⟩ := (Settings.sound_iff _).mp (loadedSettings_sound s)
    exact ⟨idle, press, h.flash, h.timer, h.channels⟩
  | losePower => exact (by simp [Machine.losePower] : (Machine.losePower s).lamp = s.lamp.dark) ▸ LampUnit.dark_rangesOk h
  | startupEnd =>
    unfold endStartup
    split
    · exact h
    · exact enterFault_rangesOk _ h
  | sample raws => exact (takeSample_judged raws s).lamp.rangesOk h
  | tick => exact (tickBoundary_judged s).lamp.rangesOk h
  | threshold x => exact (takeThreshold_judged x s).lamp.rangesOk h
  | heardMark _ f => exact (takeMark_judged _ (heardEnd s)).lamp.rangesOk h
  | silence => exact h.with_pattern .lost
  | flashStep => exact h.flashStep
  | otherHalf => exact otherHalf_rangesOk h
  | pwm sensed => exact pwmBoundary_rangesOk sensed h
  | openFlag channel =>
    refine h.of_channels fun i => ?_
    rw [Quad.get_modify]
    split
    · exact Channel.reachOpen_sound (h.channels channel)
    · exact h.channels i
  | duplicate => exact enterFault_rangesOk _ h
  | reportSent _ l => exact completeReport_rangesOk _ h
  | heardStop => exact ⟨h.base, h.press, nofun, h.timer, h.channels⟩
  | heardClosure => exact adopt_rangesOk _ _ ((examineClosure_flashed _ _ _ (heardEnd s)).rangesOk h)
  | heardTail => exact adopt_rangesOk _ _ h
  | heardLamp _ f clear => exact takeLamp_rangesOk f clear h
  | heardWrite => exact takeWrite_rangesOk _ _ settings.1 h
  | told => exact heardFrame_rangesOk h
  | flashCell f flash limit =>
    refine ⟨h.base, h.press, fun g next => ?_, h.timer, h.channels⟩
    cases next
    obtain ⟨colour, first, last, -⟩ := (Flash.sound_iff _).mp (h.flash f flash)
    exact (Flash.sound_iff _).mpr ⟨colour, first, last, limit⟩
  | patternCell => exact cellPattern_rangesOk h
  | periodsCell => exact ⟨h.base, h.press, h.flash, h.timer, h.channels⟩
  | _ => simpa using h

/-- The blocks whose ranges hang on no other block but the settings. -/
structure State.RangesOk (s : State) : Prop where
  settings : s.settings.rangesOk
  lamp : s.lamp.RangesOk
  sense : s.SenseOk
  windows : windowsSound s.judge = true

theorem Event.keeps_ranges {c : Option Instr} {s t : State} (e : Event c s t) (h : s.RangesOk) : t.RangesOk :=
  ⟨e.keeps_settings h.settings, e.keeps_lamp h.settings h.lamp, e.keeps_sense h.sense, e.keeps_windows h.windows⟩

end Sys2Proof.Machine

namespace Sys2Proof.Proofs

open Sys2Proof.Machine

/-- Settles O60, block by block; only the lamps take from another block, the colours of the settings. -/
theorem rangeInvariant : Obligations.RangeInvariant := by
  intro s t settings lamp sense windows h
  have kept : t.RangesOk := step_keeps (P := State.RangesOk)
    (fun _ _ h => ⟨h.settings, h.lamp, h.sense.of_same rfl id, h.windows⟩) (fun _ _ _ e => e.keeps_ranges)
    ⟨(settingsSound_iff s).mp settings, (lampSound_iff s).mp lamp, (senseSound_iff s).mp sense, windows⟩ h
  exact ⟨(settingsSound_iff t).mpr kept.settings, (lampSound_iff t).mpr kept.lamp, (senseSound_iff t).mpr kept.sense,
    kept.windows⟩

end Sys2Proof.Proofs

namespace Sys2Proof.Machine

/-! ### Ranges of the tallies -/

theorem Replica.sound_iff (p : Replica) : p.sound = true ↔
    p.score ≤ maxScore ∧ p.combo ≤ p.maxCombo ∧ p.maxCombo ≤ maxCount ∧ p.gauge ≤ maxGauge := by
  simp only [Replica.sound, Bool.and_eq_true, decide_eq_true_eq, and_assoc]

theorem comboAfter_le (r : JudgeResult) {combo : Nat} (h : combo ≤ maxCount) : comboAfter r combo ≤ maxCount := by
  unfold comboAfter
  split
  · exact Nat.min_le_left _ _
  · exact Nat.min_le_left _ _
  · exact Nat.min_le_left _ _
  · exact Nat.zero_le _
  · exact Nat.zero_le _
  · exact h

/-- New tallies are in their ranges, whatever the note value. -/
theorem newTallies_sound (v : Nat) (r : JudgeResult) {p : Replica} (h : p.sound = true) : (newTallies v r p).sound = true := by
  obtain ⟨-, combo, most, -⟩ := p.sound_iff.mp h
  exact (Replica.sound_iff _).mpr ⟨Nat.min_le_left _ _, Nat.le_max_right _ _,
    Nat.max_le.mpr ⟨most, comboAfter_le r (combo.trans most)⟩, Nat.min_le_left _ _⟩

/-- Adopted tallies are in their ranges, since a well-formed frame carries such. -/
theorem adopted_sound {c : Carried} {p : Replica} (formed : c.wellFormed = true) (h : p.sound = true) :
    (adopted c p).sound = true := by
  obtain ⟨-, -, most, -⟩ := p.sound_iff.mp h
  simp only [Carried.wellFormed, Bool.and_eq_true, decide_eq_true_eq] at formed
  have combo := c.combo.isLt
  refine (Replica.sound_iff _).mpr ⟨formed.1, Nat.le_max_right _ _, Nat.max_le.mpr ⟨most, ?_⟩, formed.2⟩
  unfold maxCount
  omega

theorem countUp_le (n : Nat) : countUp n ≤ maxCount := Nat.min_le_left _ _

theorem OwnCounts.count_sound {k : OwnCounts} (r : JudgeResult) (h : k.sound = true) : (k.count r).sound = true := by
  simp only [OwnCounts.sound, Bool.and_eq_true, decide_eq_true_eq] at h ⊢
  rcases r with (_ | _ | _ | _ | _) | (_ | _) <;> simp only [OwnCounts.count, countUp_le, h, and_self]

theorem startTally_replica_sound (f : StartFrame) : (startTally f).replica.sound = true := by
  refine (Replica.sound_iff _).mpr ⟨Nat.zero_le _, le_rfl, Nat.zero_le _, ?_⟩
  simp only [startTally, startGauge, clampNat, maxGauge]
  omega

theorem startNoteValue_range (f : StartFrame) : 1 ≤ startNoteValue f ∧ startNoteValue f ≤ 10000 := by
  unfold startNoteValue clampNat
  omega

/-- The Tally Unit in its ranges. -/
structure TallyUnit.RangesOk (u : TallyUnit) : Prop where
  replica : u.replica.sound = true
  counts : u.counts.sound = true
  positive : 1 ≤ u.noteValue
  limit : u.noteValue ≤ 10000

theorem TallyUnit.RangesOk.with_replica {u : TallyUnit} (h : u.RangesOk) {p : Replica} (sound : p.sound = true) :
    TallyUnit.RangesOk { u with replica := p } := ⟨sound, h.counts, h.positive, h.limit⟩

/-- What the line may yet bring to the tallies lies in their ranges. -/
structure LineController.TalliesOk (l : LineController) : Prop where
  latched : ∀ f k p, l.inFlight = some f → f.latched = some k → k.content.tallies = some p → p.sound = true
  decided : ∀ d, l.decision = some d → d.frame.wellFormed = true

/-- All that `tallySound` says. -/
structure State.TallyOk (s : State) : Prop where
  tally : s.tally.RangesOk
  line : s.line.TalliesOk

theorem tallySound_iff (s : State) : tallySound s = true ↔ s.TallyOk := by
  have latched : (inFlightTallies s).all Replica.sound = true ↔
      ∀ f k p, s.line.inFlight = some f → f.latched = some k → k.content.tallies = some p → p.sound = true := by
    simp only [inFlightTallies, Option.all_eq_true, Option.bind_eq_some_iff]
    exact ⟨fun h f k p flying latch carries => h p ⟨f, flying, k, latch, carries⟩,
      fun h p ⟨f, flying, k, latch, carries⟩ => h f k p flying latch carries⟩
  constructor
  · simp only [tallySound, Bool.and_eq_true, decide_eq_true_eq, latched, and_imp]
    exact fun replica counts positive limit latch decided =>
      ⟨⟨replica, counts, positive, limit⟩, ⟨latch, by simpa [Option.all_eq_true] using decided⟩⟩
  · rintro ⟨⟨replica, counts, positive, limit⟩, ⟨latch, decided⟩⟩
    simp only [tallySound, Bool.and_eq_true, decide_eq_true_eq, latched]
    exact ⟨⟨⟨⟨⟨replica, counts⟩, positive⟩, limit⟩, latch⟩, by simpa [Option.all_eq_true] using decided⟩

theorem LineController.TalliesOk.of_same {l l' : LineController} (h : l.TalliesOk)
    (inFlight : l'.inFlight = l.inFlight) (decision : ∀ d, l'.decision = some d → l.decision = some d) : l'.TalliesOk :=
  ⟨fun f k p flying => h.latched f k p (inFlight ▸ flying), fun d held => h.decided d (decision d held)⟩

/-- A line with no frame of the station on it, and no decision held. -/
theorem LineController.TalliesOk.of_none {l : LineController} (inFlight : l.inFlight = none) (decision : l.decision = none) :
    l.TalliesOk := ⟨by simp [inFlight], by simp [decision]⟩

theorem markEvicted_tallies (l : Latched) : (markEvicted l).content.tallies = l.content.tallies := by
  rcases l with ⟨_ | _ | _, _⟩ <;> rfl

theorem LineController.TalliesOk.condemned {l : LineController} (h : l.TalliesOk) : l.condemned.TalliesOk := by
  refine ⟨fun f k p flying latch carries => ?_, h.decided⟩
  simp only [LineController.condemned, Option.map_eq_some_iff] at flying
  obtain ⟨f, flying, rfl⟩ := flying
  simp only [Option.map_eq_some_iff] at latch
  obtain ⟨k, latch, rfl⟩ := latch
  exact h.latched f k p flying latch (markEvicted_tallies k ▸ carries)

theorem State.judgedTo.talliesOk {s t : State} (judged : s.judgedTo t) (h : s.line.TalliesOk) : t.line.TalliesOk := by
  rcases judged.line with same | condemned
  · exact same ▸ h
  · exact condemned ▸ h.condemned

/-- The tallies an item is latched with are new tallies of the station's own. -/
theorem latchItem_tallies {item : ReportItem} {s : State} {l : Latched} {p : Replica} (latched : latchItem item s = some l)
    (carries : l.content.tallies = some p) : ∃ r, p = newTallies s.tally.noteValue r s.tally.replica := by
  have head (kind : HeadKind) (latched : latchHead kind item s = some l) :
      ∃ r, p = newTallies s.tally.noteValue r s.tally.replica := by
    unfold latchHead at latched
    split at latched
    · split at latched
      · dsimp only at latched
        cases latched
        simp only [Latch.tallies, carriedTallies] at carries
        split at carries
        · exact ⟨_, (Option.some.inj carries).symm⟩
        · cases carries
      · cases latched
    · cases latched
  unfold latchItem at latched
  split at latched
  · exact head .tap latched
  · exact head .head latched
  · unfold latchTail at latched
    split at latched
    · split at latched
      · cases latched
        exact ⟨_, (Option.some.inj carries).symm⟩
      · cases latched
    · cases latched
  · cases latched
    exact ⟨_, (Option.some.inj carries).symm⟩

theorem latchSource_sound {f : InFlight} {s : State} {l : Latched} {p : Replica} (latched : latchSource f s = some l)
    (carries : l.content.tallies = some p) (h : s.tally.RangesOk) : p.sound = true := by
  unfold latchSource at latched
  split at latched
  · cases latched; cases carries
  · split at latched
    · obtain ⟨r, rfl⟩ := latchItem_tallies latched carries
      exact newTallies_sound _ r h.replica
    · cases latched
  · split at latched
    · cases latched; cases carries
    · cases latched

/-! ### The Tally Unit in every event -/

theorem adopt_tallyOk {s : State} {sender : Nat} {k : Carried} (formed : k.wellFormed = true) (h : s.tally.RangesOk) :
    (adopt sender k s).tally.RangesOk := by
  unfold adopt
  split
  · simpa using h.with_replica (adopted_sound formed h.replica)
  · exact h

theorem applyTallies_tallyOk {s : State} {j : JudgeLatch} (carried : ∀ p, j.tallies = some p → p.sound = true)
    (h : s.tally.RangesOk) : (applyTallies j s).tally.RangesOk := by
  unfold applyTallies
  split
  · exact ⟨carried _ ‹_›, OwnCounts.count_sound _ h.counts, h.positive, h.limit⟩
  · exact h

@[simp] theorem judgeApplied_tally (j : JudgeLatch) (s : State) : (judgeApplied j s).tally = (applyTallies j s).tally := by
  simp [judgeApplied]

@[simp] theorem judgeCompleted_tally (j : JudgeLatch) (s : State) : (judgeCompleted j s).tally = (applyTallies j s).tally := by
  rw [judgeCompleted_eq]
  split <;> simp

theorem completeReport_tallyOk {s : State} {l : Latch} (carried : ∀ p, l.tallies = some p → p.sound = true)
    (h : s.tally.RangesOk) : (completeReport l s).tally.RangesOk := by
  cases l with
  | judge j => simpa [completeReport] using applyTallies_tallyOk carried h
  | mark | status => exact h

theorem closure_carried_wellFormed {k : ClosureFrame} (h : (Frame.closure k).wellFormed = true) : k.carried.wellFormed = true := by
  cases k <;> simp_all [Frame.wellFormed, ClosureFrame.carried]

theorem tail_carried_wellFormed {f : TailFrame} (h : (Frame.tail f).wellFormed = true) : f.carried.wellFormed = true := by
  simp_all [Frame.wellFormed]

theorem reset_tallyOk : State.reset.TallyOk := (tallySound_iff _).mp (by decide)

/-- Every event keeps the tallies in their ranges, and what the line may bring to them. -/
theorem Event.keeps_tally {c : Option Instr} {s t : State} (e : Event c s t) (h : s.TallyOk) : t.TallyOk := by
  have unread (s : State) : (heardEnd s).line.TalliesOk := .of_none rfl rfl
  cases e with
  | reset p => exact ⟨reset_tallyOk.tally, reset_tallyOk.line⟩
  | heardRestart => exact ⟨reset_tallyOk.tally, reset_tallyOk.line⟩
  | losePower => exact ⟨by simpa using h.tally, by simpa using .of_none rfl rfl⟩
  | startupEnd =>
    refine ⟨by simpa using h.tally, ?_⟩
    unfold endStartup
    split
    · exact h.line
    · exact .of_none rfl rfl
  | duplicate => exact ⟨h.tally, .of_none rfl rfl⟩
  | sample raws => exact ⟨by simpa using h.tally, (takeSample_judged raws s).talliesOk h.line⟩
  | tick => exact ⟨by simpa using h.tally, (tickBoundary_judged s).talliesOk h.line⟩
  | threshold x => exact ⟨by simpa using h.tally, (takeThreshold_judged x s).talliesOk h.line⟩
  | heardMark => exact ⟨by simpa using h.tally, (takeMark_judged _ _).talliesOk (unread s)⟩
  | abort high => exact ⟨by simpa using h.tally, .of_none rfl rfl⟩
  | contend src rivals free =>
    refine ⟨by simpa using h.tally, ?_⟩
    simp only [Machine.contend]
    split
    · refine ⟨fun f k p flying latch => ?_, nofun⟩
      cases flying
      cases latch
    · exact .of_none rfl rfl
  | latch f l contending flying latched =>
    refine ⟨h.tally, fun g k p flying latch carries => ?_, h.line.decided⟩
    cases flying
    cases latch
    exact latchSource_sound latched carries h.tally
  | decided ahead f examines follows formed =>
    refine ⟨h.tally, h.line.latched, fun d held => ?_⟩
    cases held
    exact formed
  | markSent => exact ⟨h.tally, .of_none rfl rfl⟩
  | statusSent => exact ⟨h.tally, .of_none rfl rfl⟩
  | reportSent f l sending flying source latched =>
    refine ⟨completeReport_tallyOk (fun p carries => h.line.latched f l p flying latched carries) h.tally, ?_⟩
    rw [(completeReport_frame _ _).2.2.2.2.2.2.1]
    exact .of_none rfl rfl
  | heardStart d f =>
    obtain ⟨positive, limit⟩ := startNoteValue_range f
    exact ⟨⟨startTally_replica_sound f, (by decide : OwnCounts.zero.sound = true), positive, limit⟩, unread s⟩
  | heardClosure d k held frame =>
    have formed := closure_carried_wellFormed (frame ▸ h.line.decided d held)
    exact ⟨adopt_tallyOk formed (by simpa using h.tally), by simpa using unread s⟩
  | heardTail d f held frame =>
    have formed := tail_carried_wellFormed (frame ▸ h.line.decided d held)
    exact ⟨adopt_tallyOk formed (by simpa using h.tally), by simpa using unread s⟩
  | unread | ended => exact ⟨h.tally, unread s⟩
  | heardQuery => exact ⟨by simpa using h.tally, .of_none rfl rfl⟩
  | heardStop | heardNote | heardMember | heardLamp | heardWrite | heardStore =>
    exact ⟨by simpa using h.tally, by simpa using unread s⟩
  | countHigh | assembly | edge | runtFree | runtDropped | broken | followedCell =>
    exact ⟨h.tally, h.line.of_same rfl fun _ held => held⟩
  | _ => exact ⟨by simpa using h.tally, by simpa using h.line⟩

end Sys2Proof.Machine

namespace Sys2Proof.Proofs

open Sys2Proof.Machine

/-- Settles O31: every event keeps the tallies, and those a latched or decided frame may bring, in their ranges. -/
theorem tallyInvariant : Obligations.TallyInvariant := by
  intro s t sound h
  rw [tallySound_iff] at sound ⊢
  exact step_keeps (P := State.TallyOk) (fun _ _ h => ⟨h.tally, h.line⟩) (fun _ _ _ e => e.keeps_tally) sound h

end Sys2Proof.Proofs

namespace Sys2Proof.Machine

/-! ### The Line Controller in every event -/

/-- All that `lineSound` says. -/
structure LineController.Ok (l : LineController) : Prop where
  high : l.highCount ≤ yieldGap
  flying : l.inFlight.isSome = true ↔ l.state = .contending ∨ l.state = .sending
  latched : l.hasLatched = true ↔ l.state = .sending
  free : l.state = .lineFree → idleGap ≤ l.highCount
  assembly : l.assembly.isSome = true → l.state = .receiving
  decision : l.decision.isSome = true → l.assembly.isSome = true

theorem lineSound_iff (s : State) : lineSound s = true ↔ s.line.Ok := by
  constructor
  · simp only [lineSound, Bool.and_eq_true, decide_eq_true_eq, implies_iff, beq_iff_eq, and_imp]
    exact fun high flying latched free assembly decision =>
      ⟨high, by simp [flying], by simp [latched], free, assembly, decision⟩
  · rintro ⟨high, flying, latched, free, assembly, decision⟩
    simp only [lineSound, Bool.and_eq_true, decide_eq_true_eq, implies_iff, beq_iff_eq]
    exact ⟨⟨⟨⟨⟨high, by rw [Bool.eq_iff_iff, flying]; simp⟩, by rw [Bool.eq_iff_iff, latched]; simp⟩, free⟩, assembly⟩,
      decision⟩

/-- A line with no frame on it. -/
theorem LineController.Ok.of_idle {l : LineController} (high : l.highCount ≤ yieldGap) (flying : l.inFlight = none)
    (assembly : l.assembly = none) (decision : l.decision = none)
    (state : l.state = .receiving ∨ l.state = .lineBreak ∨ l.state = .lineFree ∧ idleGap ≤ l.highCount) : l.Ok := by
  rcases state with state | state | ⟨state, free⟩ <;>
    refine ⟨high, ?_, ?_, ?_, ?_, ?_⟩ <;> simp_all [LineController.hasLatched]

theorem LineController.Ok.inFlight_none {l : LineController} (h : l.Ok) (contending : l.state ≠ .contending)
    (sending : l.state ≠ .sending) : l.inFlight = none := by
  rw [← Option.not_isSome_iff_eq_none, h.flying]
  simp [contending, sending]

theorem LineController.Ok.assembly_none {l : LineController} (h : l.Ok) (state : l.state ≠ .receiving) : l.assembly = none := by
  rw [← Option.not_isSome_iff_eq_none]
  exact fun some => state (h.assembly some)

theorem LineController.Ok.decision_none {l : LineController} (h : l.Ok) (state : l.state ≠ .receiving) : l.decision = none := by
  rw [← Option.not_isSome_iff_eq_none]
  intro some
  have := h.decision some
  simp [h.assembly_none state] at this

theorem LineController.not_busy_iff (l : LineController) :
    l.busyWithFrame = false ↔ l.assembly = none ∧ l.decision = none ∧ l.inFlight = none := by
  simp [busyWithFrame, and_assoc]

theorem LineController.Ok.released {l : LineController} {high : Nat} (limit : high ≤ yieldGap) (last : Bool) :
    (l.released high last).Ok := .of_idle limit rfl rfl rfl (.inl rfl)

/-- The line cut off or without supply, its other registers aside. -/
theorem LineController.Ok.cleared {l l' : LineController} (h : l.Ok) (high : l'.highCount = l.highCount)
    (state : l'.state = if l.busyWithFrame then .receiving else l.state) (assembly : l'.assembly = none)
    (decision : l'.decision = none) (inFlight : l'.inFlight = none) : l'.Ok := by
  refine .of_idle (high ▸ h.high) inFlight assembly decision ?_
  cases busy : l.busyWithFrame with
  | true => exact .inl (by simpa [busy] using state)
  | false =>
    simp only [busy, Bool.false_eq_true, ↓reduceIte] at state
    obtain ⟨-, -, idle⟩ := l.not_busy_iff.mp busy
    rw [state, high]
    cases same : l.state with
    | lineFree => exact .inr (.inr ⟨rfl, h.free same⟩)
    | receiving => exact .inl rfl
    | lineBreak => exact .inr (.inl rfl)
    | contending => simpa [idle] using h.flying.mpr (.inl same)
    | sending => simpa [idle] using h.flying.mpr (.inr same)

theorem LineController.Ok.cutOff {l : LineController} (h : l.Ok) : l.cutOff.Ok := h.cleared rfl rfl rfl rfl rfl

theorem LineController.Ok.dead {l : LineController} (h : l.Ok) : l.dead.Ok := h.cleared rfl rfl rfl rfl rfl

theorem LineController.Ok.condemned {l : LineController} (h : l.Ok) : l.condemned.Ok := by
  refine ⟨h.high, ?_, ?_, h.free, h.assembly, h.decision⟩
  · simpa [LineController.condemned] using h.flying
  · have latched := h.latched
    cases flying : l.inFlight <;> simpa [LineController.condemned, LineController.hasLatched, flying] using latched

theorem LineController.Ok.countHigh {l : LineController} {n : Nat} (h : l.Ok) (counts : l.highCount ≤ n) : (l.countHigh n).Ok := by
  have limit := h.high
  unfold LineController.countHigh
  dsimp only
  split
  · rename_i gap
    simp only [LineController.awaitsGap, Bool.and_eq_true, Bool.not_eq_true', decide_eq_true_eq] at gap
    obtain ⟨⟨-, idle⟩, reached⟩ := gap
    obtain ⟨assembly, decision, inFlight⟩ := l.not_busy_iff.mp idle
    exact .of_idle (Nat.min_le_left _ _) inFlight assembly decision (.inr (.inr ⟨rfl, reached⟩))
  · refine ⟨Nat.min_le_left _ _, h.flying, h.latched, fun free => ?_, h.assembly, h.decision⟩
    have := h.free free
    simp only [idleGap, yieldGap] at *
    omega

theorem LineController.mayFollow_iff (l : LineController) : l.mayFollow = true ↔
    (l.state = .lineFree ∨ l.state = .receiving) ∧ l.decision = none ∧ l.inFlight = none := by
  simp [mayFollow, and_assoc]

theorem LineController.betweenFrames_iff (l : LineController) : l.betweenFrames = true ↔
    (l.state = .lineFree ∨ l.state = .receiving) ∧ l.assembly = none ∧ l.decision = none ∧ l.inFlight = none := by
  simp [betweenFrames, busyWithFrame, and_assoc]

theorem contend_line_ok (src : Source) (rivals : List Byte) (s : State) : (contend src rivals s).line.Ok := by
  simp only [contend]
  split
  · exact ⟨Nat.zero_le _, by simp, by simp [LineController.hasLatched], nofun, nofun, nofun⟩
  · exact ⟨Nat.zero_le _, by simp, by simp [LineController.hasLatched], nofun, fun _ => rfl, nofun⟩

theorem State.judgedTo.lineOk {s t : State} (judged : s.judgedTo t) (h : s.line.Ok) : t.line.Ok := by
  rcases judged.line with same | condemned
  · exact same ▸ h
  · exact condemned ▸ h.condemned

theorem reset_line_ok : LineController.atReset.Ok := (lineSound_iff State.reset).mp (by decide)

/-- Every event keeps the Line Controller sound. -/
theorem Event.keeps_line {c : Option Instr} {s t : State} (e : Event c s t) (h : s.line.Ok) : t.line.Ok := by
  have ended : (heardEnd s).line.Ok := .released (Nat.zero_le _) _
  cases e with
  | reset => exact reset_line_ok
  | heardRestart => exact reset_line_ok
  | losePower => simpa using h.dead
  | startupEnd =>
    unfold endStartup
    split
    · exact h
    · exact h.cutOff
  | duplicate => exact h.cutOff
  | sample raws => exact (takeSample_judged raws s).lineOk h
  | tick => exact (tickBoundary_judged s).lineOk h
  | threshold x => exact (takeThreshold_judged x s).lineOk h
  | heardMark => exact (takeMark_judged _ _).lineOk ended
  | countHigh n counts => exact h.countHigh counts
  | assembly between =>
    obtain ⟨-, -, undecided, idle⟩ := s.line.betweenFrames_iff.mp between
    exact ⟨Nat.zero_le _, by simp [beginAssembly, idle], by simp [beginAssembly, idle, LineController.hasLatched], nofun,
      fun _ => rfl, fun _ => rfl⟩
  | edge inBreak =>
    exact ⟨Nat.zero_le _, h.flying, h.latched, by simp [edgeInBreak, inBreak], h.assembly, h.decision⟩
  | runtFree free =>
    have notReceiving : s.line.state ≠ .receiving := by simp [free]
    exact .of_idle (Nat.zero_le _) (h.inFlight_none (by simp [free]) (by simp [free])) (h.assembly_none notReceiving)
      (h.decision_none notReceiving) (.inl rfl)
  | runtDropped receiving undecided =>
    exact .of_idle (Nat.zero_le _) (h.inFlight_none (by simp [receiving]) (by simp [receiving])) rfl undecided
      (.inl receiving)
  | abort high limit => exact .released limit false
  | broken idle =>
    obtain ⟨assembly, decision, inFlight⟩ := s.line.not_busy_iff.mp idle
    exact .of_idle h.high inFlight assembly decision (.inr (.inl rfl))
  | contend src rivals => exact contend_line_ok src rivals s
  | latch f l contending =>
    have notReceiving : s.line.state ≠ .receiving := by simp [contending]
    exact ⟨h.high, by simp, by simp [LineController.hasLatched], nofun, by simp [h.assembly_none notReceiving], h.decision⟩
  | markSent => exact .released (Nat.zero_le _) _
  | reportSent =>
    rw [(completeReport_frame _ _).2.2.2.2.2.2.1]
    exact .released (Nat.zero_le _) _
  | statusSent => exact .of_idle (Nat.zero_le _) rfl rfl rfl (.inl rfl)
  | heardQuery => exact .of_idle (Nat.zero_le _) rfl rfl rfl (.inl rfl)
  | decided ahead f examines follows =>
    obtain ⟨-, -, idle⟩ := s.line.mayFollow_iff.mp follows
    exact ⟨Nat.zero_le _, by simp [decideFrame, idle], by simp [decideFrame, idle, LineController.hasLatched], nofun,
      fun _ => rfl, fun _ => rfl⟩
  | followedCell n follows limit =>
    exact ⟨limit, h.flying, h.latched, fun free => by simp [h.assembly follows] at free, h.assembly, h.decision⟩
  | unread | ended | heardStart | heardStop | heardNote | heardMember | heardClosure | heardTail | heardLamp | heardWrite |
      heardStore => simpa using ended
  | _ => simpa using h

/-! ### The Note Queue in every event -/

theorem pairwise_iff {α : Type} (r : α → α → Bool) (l : List α) :
    pairwise r l = true ↔ l.Pairwise fun a b => r a b = true := by
  induction l with
  | nil => simp [pairwise]
  | cons a as ih => simp [pairwise, ih]

theorem noteBefore_iff (a b : NoteEntry) : noteBefore a b = true ↔ a.due < b.due ∧ a.spans b.due = false := by
  simp [noteBefore]

theorem fits_iff (e : NoteEntry) (entries : List NoteEntry) : fits e entries = true ↔
    ∀ x ∈ entries, x.due ≠ e.due ∧ e.spans x.due = false ∧ x.spans e.due = false := by
  simp [fits, overlap]

/-- The span and the due of an entry are those of its note. -/
theorem noteBefore_of_note {a a' b b' : NoteEntry} (ha : a'.note = a.note) (hb : b'.note = b.note) :
    noteBefore a' b' = noteBefore a b := by
  obtain ⟨due, kind⟩ := Prod.mk.inj ha
  obtain ⟨due', -⟩ := Prod.mk.inj hb
  simp [noteBefore, NoteEntry.spans, NoteEntry.holdEndTime, due, kind, due']

theorem mem_insertEntry {e x : NoteEntry} {l : List NoteEntry} : x ∈ insertEntry e l ↔ x = e ∨ x ∈ l := by
  induction l with
  | nil => simp [insertEntry]
  | cons y ys ih =>
    unfold insertEntry
    split
    · simp
    · simp [ih, or_left_comm]

theorem length_insertEntry (e : NoteEntry) (l : List NoteEntry) : (insertEntry e l).length = l.length + 1 := by
  induction l with
  | nil => rfl
  | cons y ys ih =>
    unfold insertEntry
    split <;> simp [ih]

/-- A new note that fits keeps the queue in order (R35, R41). -/
theorem insertEntry_pairwise {e : NoteEntry} {l : List NoteEntry} (order : l.Pairwise fun a b => noteBefore a b = true)
    (new : ∀ x ∈ l, x.due ≠ e.due ∧ e.spans x.due = false ∧ x.spans e.due = false) :
    (insertEntry e l).Pairwise fun a b => noteBefore a b = true := by
  induction l with
  | nil => simp [insertEntry]
  | cons y ys ih =>
    obtain ⟨first, rest⟩ := List.pairwise_cons.mp order
    obtain ⟨⟨other, ahead, behind⟩, later⟩ := List.forall_mem_cons.mp new
    unfold insertEntry
    split
    · rename_i le
      refine List.pairwise_cons.mpr ⟨fun x mem => (noteBefore_iff _ _).mpr ?_, order⟩
      rcases List.mem_cons.mp mem with rfl | mem
      · exact ⟨by omega, ahead⟩
      · have := ((noteBefore_iff _ _).mp (first x mem)).1
        exact ⟨by omega, (later x mem).2.1⟩
    · refine List.pairwise_cons.mpr ⟨fun x mem => ?_, ih rest later⟩
      rcases mem_insertEntry.mp mem with rfl | mem
      · exact (noteBefore_iff _ _).mpr ⟨by omega, behind⟩
      · exact first x mem

/-- All that `queueSound` says. -/
structure State.QueueOk (s : State) : Prop where
  order : s.queue.entries.Pairwise fun a b => noteBefore a b = true
  room : s.queue.held ≤ queueCapacity
  new : ∀ e, s.queue.pendingInsertion = some e → fits e s.queue.entries = true
  confined : s.station.state.holdsNotes = false → s.queue.entries = [] ∧ s.queue.pendingInsertion = none
  decided : s.queue.pendingInsertion.isSome = true → ∃ d, s.line.decision = some d ∧ d.takesNote = true
  stale : s.queue.staleCount ≤ 255

theorem queueSound_iff (s : State) : queueSound s = true ↔ s.QueueOk := by
  constructor
  · simp only [queueSound, Bool.and_eq_true, decide_eq_true_eq, pairwise_iff, implies_iff, Option.all_eq_true,
      Bool.not_eq_true', List.isEmpty_iff, Option.isNone_iff_eq_none, Option.any_eq_true, and_imp]
    exact fun order room new confined decided stale => ⟨order, room, new, confined, decided, stale⟩
  · rintro ⟨order, room, new, confined, decided, stale⟩
    simp only [queueSound, Bool.and_eq_true, decide_eq_true_eq, pairwise_iff, implies_iff, Option.all_eq_true,
      Bool.not_eq_true', List.isEmpty_iff, Option.isNone_iff_eq_none, Option.any_eq_true]
    exact ⟨⟨⟨⟨⟨order, room⟩, new⟩, confined⟩, decided⟩, stale⟩

theorem State.QueueOk.of_same {s t : State} (h : s.QueueOk) (queue : t.queue = s.queue)
    (state : t.station.state.holdsNotes = false → s.station.state.holdsNotes = false)
    (decision : s.queue.pendingInsertion = none ∨ t.line.decision = s.line.decision) : t.QueueOk := by
  refine ⟨queue ▸ h.order, queue ▸ h.room, queue ▸ h.new, fun closed => queue ▸ h.confined (state closed), fun new => ?_,
    queue ▸ h.stale⟩
  rw [queue] at new
  rcases decision with none | same
  · simp [none] at new
  · rw [same]
    exact h.decided new

/-- A queue emptied, or one without a pending insertion, whatever is decided on the line. -/
theorem State.QueueOk.of_emptied {t : State} (entries : t.queue.entries = []) (new : t.queue.pendingInsertion = none)
    (stale : t.queue.staleCount ≤ 255) : t.QueueOk :=
  ⟨by simp [entries], by simp [NoteQueue.held, entries, new, queueCapacity], by simp [new], fun _ => ⟨entries, new⟩,
    by simp [new], stale⟩

/-- The entries made fewer, with no insertion pending. -/
theorem State.QueueOk.of_sublist {s t : State} (h : s.QueueOk) (entries : t.queue.entries.Sublist s.queue.entries)
    (new : t.queue.pendingInsertion = none) (stale : t.queue.staleCount ≤ 255)
    (state : t.station.state.holdsNotes = false → s.station.state.holdsNotes = false) : t.QueueOk := by
  refine ⟨h.order.sublist entries, ?_, by simp [new], fun closed => ⟨?_, new⟩, by simp [new], stale⟩
  · have room := h.room
    have fewer := entries.length_le
    simp only [NoteQueue.held, new] at room ⊢
    simp only [Option.isSome_none, Bool.false_eq_true, ↓reduceIte]
    omega
  · have empty := (h.confined (state closed)).1
    rw [empty] at entries
    exact List.sublist_nil.mp entries

/-- A frame that is no NOTE, or one refused, leaves no insertion pending. -/
theorem State.QueueOk.insertion_none {s : State} (h : s.QueueOk)
    (decision : ∀ d, s.line.decision = some d → d.takesNote = false) : s.queue.pendingInsertion = none := by
  rw [← Option.not_isSome_iff_eq_none]
  intro new
  obtain ⟨d, held, takes⟩ := h.decided new
  rw [decision d held] at takes
  cases takes

theorem Decision.takesNote_of_frame {d : Decision} (h : ∀ f, d.frame ≠ .note f) : d.takesNote = false := by
  unfold takesNote
  split
  · exact absurd ‹_› (h _)
  · rfl

theorem State.QueueOk.insertion_none_of_frame {s : State} (h : s.QueueOk) {d : Decision} (held : s.line.decision = some d)
    (frame : ∀ f, d.frame ≠ .note f) : s.queue.pendingInsertion = none := by
  refine h.insertion_none fun d' held' => ?_
  rw [held] at held'
  cases held'
  exact Decision.takesNote_of_frame frame

theorem map_note_pairwise {l l' : List NoteEntry} (notes : l'.map NoteEntry.note = l.map NoteEntry.note)
    (h : l.Pairwise fun a b => noteBefore a b = true) : l'.Pairwise fun a b => noteBefore a b = true := by
  induction l generalizing l' with
  | nil => simp_all
  | cons a as ih =>
    match l' with
    | a' :: as' =>
      rw [List.map_cons, List.map_cons, List.cons.injEq] at notes
      obtain ⟨first, rest⟩ := List.pairwise_cons.mp h
      refine List.pairwise_cons.mpr ⟨fun b' mem => ?_, ih notes.2 rest⟩
      obtain ⟨b, inList, same⟩ := List.mem_map.mp (notes.2 ▸ List.mem_map_of_mem mem)
      rw [noteBefore_of_note notes.1 same.symm]
      exact first b inList

/-- Judging keeps the queue sound: the notes stay as they are. -/
theorem State.QueueOk.of_judged {s t : State} (h : s.QueueOk) (judged : s.judgedTo t)
    (state : t.station.state.holdsNotes = false → s.station.state.holdsNotes = false) : t.QueueOk := by
  have new : t.queue.pendingInsertion = s.queue.pendingInsertion := by rw [judged.queue]
  have count : t.queue.entries.length = s.queue.entries.length := by
    simpa using congrArg List.length judged.notes
  refine ⟨map_note_pairwise judged.notes h.order, ?_, fun e held => ?_, fun closed => ?_, fun held => ?_, ?_⟩
  · simpa [NoteQueue.held, new, count] using h.room
  · rw [fits_iff]
    intro x mem
    obtain ⟨y, inList, same⟩ := List.mem_map.mp (judged.notes ▸ List.mem_map_of_mem mem)
    obtain ⟨due, kind⟩ := Prod.mk.inj same
    have := (fits_iff _ _).mp (h.new e (new ▸ held)) y inList
    simpa [NoteEntry.spans, NoteEntry.holdEndTime, ← due, ← kind] using this
  · obtain ⟨empty, none⟩ := h.confined (state closed)
    refine ⟨?_, new ▸ none⟩
    rw [← List.length_eq_zero_iff, count, empty, List.length_nil]
  · rw [judged.decision]
    exact h.decided (new ▸ held)
  · rw [judged.queue]
    exact h.stale

end Sys2Proof.Machine

namespace Sys2Proof.Machine

@[simp] theorem heardFrame_holdsNotes (s : State) :
    (heardFrame s).station.state.holdsNotes = s.station.state.holdsNotes := by
  unfold heardFrame
  split <;> simp_all [setState, setPattern, StationState.holdsNotes, StationState.takesNotes]

theorem testFailure_queueOk {s : State} (h : s.QueueOk) : (testFailure s).QueueOk := by
  unfold testFailure
  split
  · exact .of_emptied rfl rfl h.stale
  · exact h

theorem doneCondition_iff (s : State) : doneCondition s = true ↔
    s.station.endTime ≤ s.adjClock ∧ s.queue.entries = [] ∧ s.queue.pendingInsertion = none ∧ s.reports = [] ∧
      s.chords = [] := by
  simp [doneCondition, and_assoc]

theorem examineDone_queueOk {s : State} (h : s.QueueOk) : (examineDone s).QueueOk := by
  unfold examineDone
  split
  · rename_i done
    obtain ⟨-, entries, new, -⟩ := (doneCondition_iff s).mp done.2
    exact .of_emptied entries new h.stale
  · exact h

theorem reportAdvance_queueOk {s : State} (old new : Nat) (h : s.QueueOk) : (reportAdvance old new s).QueueOk :=
  examineDone_queueOk (h.of_judged ((State.judgedTo.refl s).takeThresholds _ _) (by simp))

theorem tickBoundary_queueOk {s : State} (h : s.QueueOk) : (tickBoundary s).QueueOk := by
  unfold tickBoundary
  split
  · exact reportAdvance_queueOk _ _ (h.of_same rfl (by simp) (.inr rfl))
  · exact h

theorem takeMark_queueOk {s : State} (m : Nat) (h : s.QueueOk) : (takeMark m s).QueueOk := by
  have stepped : (s.setClock (s.clock.stepTo (markTarget m))).QueueOk := h.of_same rfl (by simp) (.inr rfl)
  have forward : (correctForward m s).QueueOk := by
    simp only [correctForward]
    split
    · split
      · exact reportAdvance_queueOk _ _ stepped
      · exact stepped
    · exact h
  exact forward.of_same rfl (fun closed => closed) (.inr rfl)

/-- The entries changed in place, their notes as they were, with no insertion pending. -/
theorem State.QueueOk.of_notes {s t : State} (h : s.QueueOk)
    (notes : t.queue.entries.map NoteEntry.note = s.queue.entries.map NoteEntry.note)
    (new : t.queue.pendingInsertion = none) (stale : t.queue.staleCount = s.queue.staleCount)
    (state : t.station.state = s.station.state) : t.QueueOk := by
  have count : t.queue.entries.length = s.queue.entries.length := by simpa using congrArg List.length notes
  refine ⟨map_note_pairwise notes h.order, ?_, by simp [new], fun closed => ⟨?_, new⟩, by simp [new], stale ▸ h.stale⟩
  · have room := h.room
    unfold NoteQueue.held at room ⊢
    rw [new, count]
    simp only [Option.isSome_none, Bool.false_eq_true, ↓reduceIte]
    omega
  · rw [← List.length_eq_zero_iff, count, (h.confined (state ▸ closed)).1, List.length_nil]

theorem map_note_of_update (due : Nat) {f : NoteEntry → NoteEntry} (note : ∀ e, (f e).note = e.note) (l : List NoteEntry) :
    (l.map fun e => if e.due = due then f e else e).map NoteEntry.note = l.map NoteEntry.note := by
  rw [List.map_map, List.map_inj_left]
  intro e _
  simp only [Function.comp_apply]
  split
  · exact note e
  · rfl

theorem closeEntry_queue (sender due : Nat) (s : State) : (closeEntry sender due s).queue = { s.queue with
    entries := s.queue.entries.map fun e => if e.due = due then
      if e.partners.contains sender && e.headUnreported then { e with chordClosed := true } else e else e } := rfl

theorem closeEntry_note (sender : Nat) (e : NoteEntry) :
    (if e.partners.contains sender && e.headUnreported then { e with chordClosed := true } else e).note = e.note := by
  split <;> rfl

theorem examineClosure_queueOk {s : State} (sender due : Nat) (g : Grade) (new : s.queue.pendingInsertion = none)
    (h : s.QueueOk) : (examineClosure sender due g s).QueueOk := by
  unfold examineClosure
  split
  · refine h.of_notes ?_ ?_ ?_ (by simp) <;>
      simp only [hearClosure, signalFlash_frame, closeEntry_queue, closeRecord_frame]
    · exact map_note_of_update due (closeEntry_note sender) _
    · exact new
  · exact h

theorem adopt_queueOk {s : State} (sender : Nat) (k : Carried) (h : s.QueueOk) : (adopt sender k s).QueueOk := by
  unfold adopt
  split
  · exact testFailure_queueOk (h.of_same rfl (by simp) (.inr rfl))
  · exact h

/-- What an own report leaves of the queue: its entry gone, or its head marked as sent (R46). -/
theorem entryReported_queue (item : ReportItem) (s : State) : (entryReported item s).queue = { s.queue with
    entries := match item.kind with
      | .head => s.queue.entries.map fun x => if x.due = item.due then { x with headSent := true } else x
      | .forced => s.queue.entries
      | _ => s.queue.entries.filter fun x => x.due != item.due } := by
  unfold entryReported
  cases item.kind <;> rfl

theorem judgeApplied_queue (j : JudgeLatch) (s : State) :
    (judgeApplied j s).queue = (entryReported j.item s).queue := by
  simp only [judgeApplied, chordReported_frame]
  simp [entryReported_queue]

theorem entryReported_queueOk {s : State} (item : ReportItem) (new : s.queue.pendingInsertion = none) (h : s.QueueOk) :
    (entryReported item s).QueueOk := by
  have queue := entryReported_queue item s
  cases kind : item.kind <;> simp only [kind] at queue
  case head =>
    refine h.of_notes ?_ (by simp [queue, new]) (by simp [queue]) (by simp)
    rw [queue]
    exact map_note_of_update item.due (f := fun x => { x with headSent := true }) (fun _ => rfl) _
  case forced => exact h.of_same (by simp [queue]) (by simp) (.inl new)
  all_goals exact h.of_sublist (by simp [queue]) (by simp [queue, new]) (by simpa [queue] using h.stale) (by simp)

theorem completeReport_queueOk {s : State} (l : Latch) (new : s.queue.pendingInsertion = none) (h : s.QueueOk) :
    (completeReport l s).QueueOk := by
  cases l with
  | judge j =>
    have applied : (judgeApplied j s).QueueOk :=
      (entryReported_queueOk j.item new h).of_same (judgeApplied_queue j s) (by simp)
        (.inl (by simpa [entryReported_queue] using new))
    simp only [completeReport, judgeCompleted_eq]
    split
    · exact testFailure_queueOk applied
    · exact applied
  | mark | status => exact h

/-! ### A NOTE, from its verdict to its end-of-frame -/

/-- The entry a NOTE makes passes the tests of R38, and is WAITING. -/
theorem testNote_ok {f : NoteFrame} {adj : Nat} {s : State} {e : NoteEntry} (h : testNote f adj s = .ok e) :
    s.station.state.takesNotes = true ∧ noteEntry s.address f = some e ∧ fits e s.queue.entries = true ∧
      s.queue.held < queueCapacity := by
  unfold testNote at h
  split at h
  · cases h
  · rename_i takes
    split at h
    · cases h
    · rename_i made
      split at h
      · cases h
      · split at h
        · cases h
        · rename_i distinct
          split at h
          · cases h
          · rename_i apart
            split at h
            · cases h
            · rename_i room
              cases h
              refine ⟨by simpa using takes, made, ?_, Nat.lt_of_not_le room⟩
              simp only [List.any_eq_true, beq_iff_eq, not_exists, not_and, Bool.not_eq_true] at distinct apart
              simp only [fits, List.all_eq_true, Bool.and_eq_true, bne_iff_ne, Bool.not_eq_true']
              exact fun x mem => ⟨distinct x mem, apart x mem⟩

theorem noteEntry_waiting {own : Nat} {f : NoteFrame} {e : NoteEntry} (h : noteEntry own f = some e) :
    e.state = .waiting ∧ e.head = none ∧ e.headSent = false ∧ e.tail = none ∧ e.chordClosed = false := by
  unfold noteEntry at h
  split at h
  · split at h
    · cases h
      simp
    · cases h
  · cases h

/-- An insertion pending comes of a NOTE whose verdict is good, and so of a decision that takes it. -/
theorem insertionOf_some {ahead : Bool} {f : Frame} {s : State} {e : NoteEntry} (h : insertionOf ahead f s = some e) :
    ∃ n adj, f = .note n ∧ testNote n adj s = .ok e ∧ (decisionOf ahead f s).takesNote = true := by
  cases f with
  | note n =>
    simp only [insertionOf] at h
    split at h
    · rename_i made
      cases h
      refine ⟨n, adjClockAhead ahead s, rfl, ?_, by simp [decisionOf, Decision.takesNote, accepts, refusalOf, made]⟩
      unfold noteVerdict at made
      split at made
      · exact Option.some.inj made
      · cases made
    · cases h
  | _ => simp [insertionOf] at h

theorem decideFrame_queueOk {s : State} (ahead : Bool) (f : Frame) (h : s.QueueOk) : (decideFrame ahead f s).QueueOk := by
  have line : (decideFrame ahead f s).line.decision = some (decisionOf ahead f s) := rfl
  have queue : (decideFrame ahead f s).queue = { s.queue with pendingInsertion := insertionOf ahead f s } := rfl
  refine ⟨h.order, ?_, fun e new => ?_, fun closed => ⟨(h.confined closed).1, ?_⟩, fun new => ?_, h.stale⟩
  · have room := h.room
    rw [queue]
    simp only [NoteQueue.held] at room ⊢
    cases new : insertionOf ahead f s with
    | none => simp only [Option.isSome_none, Bool.false_eq_true, ↓reduceIte]; omega
    | some e =>
      obtain ⟨n, adj, -, made, -⟩ := insertionOf_some new
      have := (testNote_ok made).2.2.2
      simp only [NoteQueue.held] at this
      simp only [Option.isSome_some, ↓reduceIte]
      omega
  · rw [queue] at new
    obtain ⟨n, adj, -, made, -⟩ := insertionOf_some new
    exact (testNote_ok made).2.2.1
  · rw [queue]
    dsimp only
    cases new : insertionOf ahead f s with
    | none => rfl
    | some e =>
      obtain ⟨n, adj, -, made, -⟩ := insertionOf_some new
      have takes := (testNote_ok made).1
      rw [decideFrame_frame ahead f s |>.2.2.1, StationState.holdsNotes, takes] at closed
      cases closed
  · rw [queue] at new
    obtain ⟨e, made⟩ := Option.isSome_iff_exists.mp new
    obtain ⟨n, adj, -, -, takes⟩ := insertionOf_some made
    exact ⟨_, line, takes⟩

theorem takeInsertion_none {s : State} (h : s.queue.pendingInsertion = none) : takeInsertion s = s := by
  simp [takeInsertion, h]

theorem takeInsertion_some {s : State} {e : NoteEntry} (h : s.queue.pendingInsertion = some e) : takeInsertion s =
    s.setQueue { s.queue with entries := insertEntry e s.queue.entries, pendingInsertion := none } := by
  simp [takeInsertion, h]

/-- A NOTE at its end-of-frame: nothing, an insertion made, or a refusal recorded with no insertion pending. -/
theorem noteEffect_cases {s : State} {d : Decision} {f : NoteFrame} (held : s.line.decision = some d)
    (frame : d.frame = .note f) (h : s.QueueOk) :
    (s.queue.pendingInsertion = none ∧ noteEffect d (heardEnd s) = heardEnd s) ∨
    (s.queue.pendingInsertion = none ∧ ∃ r, noteEffect d (heardEnd s) = recordRefusal r (heardEnd s)) ∨
    (∃ e, s.queue.pendingInsertion = some e ∧ noteEffect d (heardEnd s) =
      (heardEnd s).setQueue { s.queue with entries := insertEntry e s.queue.entries, pendingInsertion := none }) := by
  have none_of {b : Bool} (refused : (d.accepted && d.refusal.isNone) = b) (bad : b = false) :
      s.queue.pendingInsertion = none := by
    refine h.insertion_none fun d' held' => ?_
    rw [held] at held'
    cases held'
    simp [Decision.takesNote, frame, refused, bad]
  unfold noteEffect
  split
  · rename_i r refused
    exact .inr (.inl ⟨none_of (b := false) (by simp [refused]) rfl, r, rfl⟩)
  · split
    · cases new : s.queue.pendingInsertion with
      | none => exact .inl ⟨rfl, takeInsertion_none (by simpa using new)⟩
      | some e => exact .inr (.inr ⟨e, rfl, by simpa using takeInsertion_some (s := heardEnd s) (e := e) (by simpa using new)⟩)
    · rename_i refused
      exact .inl ⟨none_of (b := false) (by simp [refused]) rfl, rfl⟩

theorem noteEffect_queueOk {s : State} {d : Decision} {f : NoteFrame} (held : s.line.decision = some d)
    (frame : d.frame = .note f) (h : s.QueueOk) : (noteEffect d (heardEnd s)).QueueOk := by
  rcases noteEffect_cases held frame h with ⟨new, same⟩ | ⟨new, r, same⟩ | ⟨e, new, same⟩ <;> rw [same]
  · exact h.of_same (by simp) (by simp) (.inl new)
  · refine h.of_sublist (by simp [recordRefusal]) (by simp [recordRefusal, new]) ?_ (by simp)
    have := h.stale
    simp only [recordRefusal, State.setQueue_queue, heardEnd_frame]
    split
    · exact Nat.min_le_left _ _
    · exact this
  · have order := insertEntry_pairwise h.order ((fits_iff _ _).mp (h.new e new))
    refine ⟨order, ?_, nofun, fun closed => ?_, nofun, h.stale⟩
    · have room := h.room
      simp only [NoteQueue.held, new] at room
      simpa [NoteQueue.held, length_insertEntry] using room
    · have := (h.confined (by simpa using closed)).2
      rw [new] at this
      cases this

theorem purged_staleCount (w endTime adjStart : Nat) (q : NoteQueue) : (purged w endTime adjStart q).staleCount ≤ 255 :=
  Nat.min_le_left _ _

theorem heardEnd_queueOk {s : State} (new : s.queue.pendingInsertion = none) (h : s.QueueOk) : (heardEnd s).QueueOk :=
  h.of_same (by simp) (by simp) (.inl new)

theorem losePower_queue (s : State) : (losePower s).queue = { s.queue with pendingInsertion := none } := by
  simp [losePower]

theorem reset_queueOk : State.reset.QueueOk := (queueSound_iff _).mp (by decide)

/-- Every event keeps the Note Queue sound. -/
theorem Event.keeps_queue {c : Option Instr} {s t : State} (e : Event c s t) (line : s.line.Ok) (h : s.QueueOk) :
    t.QueueOk := by
  have idle_of (state : s.line.state ≠ .receiving) : s.queue.pendingInsertion = none :=
    h.insertion_none fun d held => by simp [line.decision_none state] at held
  have ended {d : Decision} (held : s.line.decision = some d) (frame : ∀ f, d.frame ≠ .note f) : (heardEnd s).QueueOk :=
    heardEnd_queueOk (h.insertion_none_of_frame held frame) h
  cases e with
  | reset => exact reset_queueOk.of_same rfl (fun closed => closed) (.inl rfl)
  | heardRestart => exact reset_queueOk.of_same rfl (fun closed => closed) (.inl rfl)
  | losePower =>
    refine h.of_sublist ?_ ?_ ?_ (by simp) <;> rw [losePower_queue]
    exact h.stale
  | startupEnd sampled =>
    unfold endStartup
    split
    · exact h.of_same rfl (fun closed => nomatch closed) (.inr rfl)
    · exact .of_emptied rfl rfl h.stale
  | duplicate => exact .of_emptied rfl rfl h.stale
  | sample raws => exact h.of_judged (takeSample_judged raws s) (by simp)
  | threshold x => exact h.of_judged (takeThreshold_judged x s) (by simp)
  | tick => exact tickBoundary_queueOk h
  | silence playing =>
    refine h.of_same (by simp) (fun closed => ?_) (.inr rfl)
    simp [enterLost, setState, setPattern, StationState.holdsNotes, StationState.takesNotes] at closed
  | abort => exact h.of_sublist (by simp [abortFrame]) (by simp [abortFrame]) (by simpa [abortFrame] using h.stale) (by simp)
  | contend _ _ free => exact h.of_same (by simp) (by simp) (.inl (idle_of (by simp [free])))
  | markSent _ sending => exact h.of_same (by simp) (by simp) (.inl (idle_of (by simp [sending])))
  | statusSent _ sending => exact h.of_same (by simp) (by simp) (.inl (idle_of (by simp [sending])))
  | reportSent _ l sending =>
    have new := idle_of (by simp [sending])
    exact completeReport_queueOk _ (by simpa using new) (h.of_same (by simp) (by simp) (.inl new))
  | decided ahead f => exact decideFrame_queueOk ahead f h
  | unread follows =>
    obtain ⟨-, undecided, -⟩ := s.line.mayFollow_iff.mp follows
    exact heardEnd_queueOk (h.insertion_none (by simp [undecided])) h
  | ended d held frame => exact ended held frame
  | heardMark d f held frame => exact takeMark_queueOk _ (ended held (by simp [frame]))
  | heardStart d f held frame =>
    have new := h.insertion_none_of_frame held (by simp [frame])
    exact h.of_sublist (by simp [takeStart, purged]) (by simpa [takeStart, purged] using new)
      (purged_staleCount _ _ _ _) (by simp [takeStart, StationState.holdsNotes, StationState.takesNotes])
  | heardStop => exact .of_emptied rfl rfl h.stale
  | heardNote d f held frame => exact noteEffect_queueOk held frame h
  | heardClosure d k held frame =>
    have new := h.insertion_none_of_frame held (by simp [frame])
    exact adopt_queueOk _ _ (examineClosure_queueOk _ _ _ (by simpa using new) (ended held (by simp [frame])))
  | heardTail d f held frame => exact adopt_queueOk _ _ (ended held (by simp [frame]))
  | heardMember d _ held frame | heardLamp d _ _ held frame | heardWrite d _ held frame | heardStore d _ held frame
  | heardQuery d _ held frame =>
    exact (ended held (by simp [frame])).of_same (by simp) (by simp) (.inl (by
      simpa using h.insertion_none_of_frame held (by simp [frame])))
  | told => exact h.of_same (by simp) (by simp) (.inr (by simp))
  | _ => exact h.of_same (by simp) (by simp) (.inr (by simp))

end Sys2Proof.Machine

namespace Sys2Proof.Machine

/-! ### The entries under the operations of the Judge Unit -/

/-- The entries of a due changed by `f`. -/
def retouch (due : Nat) (f : NoteEntry → NoteEntry) (l : List NoteEntry) : List NoteEntry :=
  l.map fun e => if e.due = due then f e else e

theorem mem_retouch {due : Nat} {f : NoteEntry → NoteEntry} {l : List NoteEntry} {x : NoteEntry} :
    x ∈ retouch due f l ↔ (∃ e ∈ l, e.due = due ∧ f e = x) ∨ (x ∈ l ∧ x.due ≠ due) := by
  simp only [retouch, List.mem_map]
  constructor
  · rintro ⟨e, mem, rfl⟩
    by_cases same : e.due = due
    · exact .inl ⟨e, mem, same, by simp [same]⟩
    · exact .inr ⟨by simpa [same] using mem, by simpa [same] using same⟩
  · rintro (⟨e, mem, same, rfl⟩ | ⟨mem, other⟩)
    · exact ⟨e, mem, by simp [same]⟩
    · exact ⟨x, mem, by simp [other]⟩

theorem updateEntry_queue (due : Nat) (f : NoteEntry → NoteEntry) (s : State) :
    (updateEntry due f s).queue = { s.queue with entries := retouch due f s.queue.entries } := rfl

theorem resolveTap_queue (e : NoteEntry) (h : HeadResult) (s : State) : (resolveTap e h s).queue = { s.queue with
    entries := retouch e.due (fun x => { x with state := .judged, head := some h }) s.queue.entries } := by
  simp [resolveTap, updateEntry_queue]

theorem resolveTail_queue (due : Nat) (r : HoldResult) (s : State) : (resolveTail due r s).queue = { s.queue with
    entries := retouch due (fun x => { x with state := .judged, tail := some r }) s.queue.entries } := by
  simp [resolveTail, updateEntry_queue]

theorem startHold_queue (e : NoteEntry) (h : HeadResult) (s : State) : (startHold e h s).queue = { s.queue with
    entries := retouch e.due (fun x => { x with state := .holding, head := some h, headSent := false }) s.queue.entries } := by
  simp [startHold, updateEntry_queue]

theorem lapseHold_queue (e : NoteEntry) (s : State) : (lapseHold e s).queue = { s.queue with
    entries := retouch e.due (fun x => { x with state := .judged, head := some .lapse, headSent := false, tail := some .ng })
      s.queue.entries } := by
  simp [lapseHold, updateEntry_queue]

theorem reGrip_queue (e : NoteEntry) (s : State) : (reGrip e s).queue = { s.queue with
    entries := retouch e.due (fun x => { x with state := .holding }) s.queue.entries } := rfl

/-! ### Holds -/

/-- All that `holdsSound` says of entries in due order, for a panel that is down or up. -/
structure HoldsOk (entries : List NoteEntry) (down : Bool) : Prop where
  one : ∀ x ∈ entries, ∀ y ∈ entries, x.inHold = true → y.inHold = true → x.due = y.due
  holding : ∀ x ∈ entries, x.state.isHolding = true → down = true
  slipping : ∀ x ∈ entries, x.state.isSlipping = true → down = false

theorem NoteEntry.inHold_iff (e : NoteEntry) :
    e.inHold = true ↔ e.state.isHolding = true ∨ e.state.isSlipping = true := by
  simp [inHold]

theorem NoteEntry.inHold_of_waiting {e : NoteEntry} (h : e.state.isWaiting = true) : e.inHold = false := by
  cases state : e.state <;> simp_all [inHold, EntryState.isWaiting, EntryState.isHolding, EntryState.isSlipping]

theorem filter_inHold_iff {entries : List NoteEntry} (order : entries.Pairwise fun a b => noteBefore a b = true) :
    (entries.filter NoteEntry.inHold).length ≤ 1 ↔
      ∀ x ∈ entries, ∀ y ∈ entries, x.inHold = true → y.inHold = true → x.due = y.due := by
  have mem_filter (x : NoteEntry) : x ∈ entries.filter NoteEntry.inHold ↔ x ∈ entries ∧ x.inHold = true := List.mem_filter
  have sorted := order.sublist (List.filter_sublist (p := NoteEntry.inHold))
  constructor
  · intro few x hx y hy holdX holdY
    have memX := (mem_filter x).mpr ⟨hx, holdX⟩
    have memY := (mem_filter y).mpr ⟨hy, holdY⟩
    generalize entries.filter NoteEntry.inHold = held at few memX memY
    match held, few with
    | [], _ => cases memX
    | [z], _ => rw [List.mem_singleton.mp memX, List.mem_singleton.mp memY]
  · intro one
    match held : entries.filter NoteEntry.inHold with
    | [] | [_] => simp
    | x :: y :: rest =>
      rw [held] at sorted
      have before := ((noteBefore_iff x y).mp (List.rel_of_pairwise_cons sorted (by simp))).1
      obtain ⟨memX, holdX⟩ := (mem_filter x).mp (held ▸ by simp)
      obtain ⟨memY, holdY⟩ := (mem_filter y).mp (held ▸ by simp)
      have := one x memX y memY holdX holdY
      omega

theorem holdsSound_iff {s : State} (order : s.queue.entries.Pairwise fun a b => noteBefore a b = true) :
    holdsSound s = true ↔ HoldsOk s.queue.entries s.sense.detector.down := by
  simp only [holdsSound, Bool.and_eq_true, decide_eq_true_eq, filter_inHold_iff order, List.all_eq_true, implies_iff,
    Bool.not_eq_true']
  exact ⟨fun ⟨one, side⟩ => ⟨one, fun x mem => (side x mem).1, fun x mem => (side x mem).2⟩,
    fun ⟨one, holding, slipping⟩ => ⟨one, fun x mem => ⟨holding x mem, slipping x mem⟩⟩⟩

theorem HoldsOk.of_none {l : List NoteEntry} (down : Bool) (h : ∀ x ∈ l, x.inHold = false) : HoldsOk l down := by
  refine ⟨fun x hx _ _ holdX => ?_, fun x hx holding => ?_, fun x hx slipping => ?_⟩
  · simp [h x hx] at holdX
  · simpa [h x hx] using x.inHold_iff.mpr (.inl holding)
  · simpa [h x hx] using x.inHold_iff.mpr (.inr slipping)

/-- Every entry of the first list stands in the second, with its due and its state. -/
def StatesWithin (l' l : List NoteEntry) : Prop := ∀ x ∈ l', ∃ y ∈ l, y.due = x.due ∧ y.state = x.state

theorem StatesWithin.of_subset {l' l : List NoteEntry} (h : ∀ x ∈ l', x ∈ l) : StatesWithin l' l :=
  fun x mem => ⟨x, h x mem, rfl, rfl⟩

theorem StatesWithin.retouch (due : Nat) {f : NoteEntry → NoteEntry} (keeps : ∀ e, (f e).due = e.due ∧ (f e).state = e.state)
    (l : List NoteEntry) : StatesWithin (retouch due f l) l := by
  intro x mem
  rcases mem_retouch.mp mem with ⟨e, inList, -, rfl⟩ | ⟨inList, -⟩
  · exact ⟨e, inList, (keeps e).1.symm, (keeps e).2.symm⟩
  · exact ⟨x, inList, rfl, rfl⟩

theorem HoldsOk.of_within {l l' : List NoteEntry} {down : Bool} (h : HoldsOk l down) (within : StatesWithin l' l) :
    HoldsOk l' down := by
  refine ⟨fun x hx y hy holdX holdY => ?_, fun x hx holding => ?_, fun x hx slipping => ?_⟩
  · obtain ⟨x', hx', dueX, stateX⟩ := within x hx
    obtain ⟨y', hy', dueY, stateY⟩ := within y hy
    rw [← dueX, ← dueY]
    exact h.one x' hx' y' hy' (by simpa [NoteEntry.inHold, stateX] using holdX)
      (by simpa [NoteEntry.inHold, stateY] using holdY)
  · obtain ⟨x', hx', -, stateX⟩ := within x hx
    exact h.holding x' hx' (stateX ▸ holding)
  · obtain ⟨x', hx', -, stateX⟩ := within x hx
    exact h.slipping x' hx' (stateX ▸ slipping)

/-- An entry of no hold joins. -/
theorem HoldsOk.insert {l : List NoteEntry} {down : Bool} {e : NoteEntry} (h : HoldsOk l down) (waits : e.inHold = false) :
    HoldsOk (insertEntry e l) down := by
  have held {x : NoteEntry} (mem : x ∈ insertEntry e l) (hold : x.inHold = true) : x ∈ l := by
    rcases mem_insertEntry.mp mem with rfl | mem
    · simp [waits] at hold
    · exact mem
  exact ⟨fun x hx y hy holdX holdY => h.one x (held hx holdX) y (held hy holdY) holdX holdY,
    fun x hx holding => h.holding x (held hx (x.inHold_iff.mpr (.inl holding))) holding,
    fun x hx slipping => h.slipping x (held hx (x.inHold_iff.mpr (.inr slipping))) slipping⟩

/-- The entries of a due changed to be in no hold. -/
theorem HoldsOk.settle {l : List NoteEntry} {down : Bool} (h : HoldsOk l down) (due : Nat) {f : NoteEntry → NoteEntry}
    (settled : ∀ e, (f e).inHold = false) : HoldsOk (retouch due f l) down := by
  have held {x : NoteEntry} (mem : x ∈ retouch due f l) (hold : x.inHold = true) : x ∈ l := by
    rcases mem_retouch.mp mem with ⟨e, -, -, rfl⟩ | ⟨mem, -⟩
    · simp [settled] at hold
    · exact mem
  exact ⟨fun x hx y hy holdX holdY => h.one x (held hx holdX) y (held hy holdY) holdX holdY,
    fun x hx holding => h.holding x (held hx (x.inHold_iff.mpr (.inl holding))) holding,
    fun x hx slipping => h.slipping x (held hx (x.inHold_iff.mpr (.inr slipping))) slipping⟩

/-- The entries of a due changed, with no other in a hold. -/
theorem HoldsOk.move {l : List NoteEntry} {due : Nat} (down : Bool) {f : NoteEntry → NoteEntry}
    (alone : ∀ x ∈ l, x.inHold = true → x.due = due) (keeps : ∀ e, (f e).due = e.due)
    (holding : ∀ e, (f e).state.isHolding = true → down = true)
    (slipping : ∀ e, (f e).state.isSlipping = true → down = false) : HoldsOk (retouch due f l) down := by
  have changed {x : NoteEntry} (mem : x ∈ retouch due f l) (hold : x.inHold = true) : x.due = due ∧ ∃ e, x = f e := by
    rcases mem_retouch.mp mem with ⟨e, -, same, rfl⟩ | ⟨mem, other⟩
    · exact ⟨(keeps e).trans same, e, rfl⟩
    · exact absurd (alone x mem hold) other
  refine ⟨fun x hx y hy holdX holdY => (changed hx holdX).1.trans (changed hy holdY).1.symm, fun x hx state => ?_,
    fun x hx state => ?_⟩
  · obtain ⟨-, e, rfl⟩ := changed hx (x.inHold_iff.mpr (.inl state))
    exact holding e state
  · obtain ⟨-, e, rfl⟩ := changed hx (x.inHold_iff.mpr (.inr state))
    exact slipping e state

theorem takeThreshold_holds {s : State} {down : Bool} (x : Threshold) (h : HoldsOk s.queue.entries down) :
    HoldsOk (takeThreshold s x).queue.entries down := by
  have settled (due : Nat) (r : HoldResult) : HoldsOk (resolveTail due r s).queue.entries down := by
    rw [resolveTail_queue]
    exact h.settle due fun _ => rfl
  unfold takeThreshold
  split
  · unfold takeLapse
    split
    · split
      · split
        · rw [resolveTap_queue]
          exact h.settle _ fun _ => rfl
        · rw [lapseHold_queue]
          exact h.settle _ fun _ => rfl
      · exact h
    · exact h
  · unfold takeHoldEnd
    split
    · split
      · exact settled _ _
      · exact h
    · exact h
  · unfold takeGrace
    split
    · split
      · exact settled _ _
      · exact h
    · exact h
  · simpa using h

theorem takeThresholds_holds {s : State} {down : Bool} (old new : Nat) (h : HoldsOk s.queue.entries down) :
    HoldsOk (takeThresholds old new s).queue.entries down := by
  have fold (xs : List Threshold) : HoldsOk (xs.foldl takeThreshold s).queue.entries down := by
    induction xs generalizing s with
    | nil => exact h
    | cons x xs ih => exact ih (takeThreshold_holds x h)
  unfold takeThresholds
  split
  · exact fold _
  · exact h

/-- A press, at a panel that was up: the slipping hold is taken back, or one begins where none was (R53, R57). -/
theorem judgePress_holds {s : State} (time : Nat) (h : HoldsOk s.queue.entries false) :
    HoldsOk (judgePress time s).queue.entries true := by
  unfold judgePress
  split
  · rename_i e slips
    have mem := List.mem_of_find?_eq_some slips
    have slipping := e.inHold_iff.mpr (.inr (by simpa using List.find?_some slips))
    rw [reGrip_queue]
    exact .move true (fun x hx hold => h.one x hx e mem hold slipping) (fun _ => rfl) (fun _ _ => rfl) nofun
  · rename_i noSlip
    have none (x : NoteEntry) (mem : x ∈ s.queue.entries) : x.inHold = false := by
      rw [← Bool.not_eq_true, x.inHold_iff]
      rintro (holding | slipping)
      · cases h.holding x mem holding
      · exact (List.find?_eq_none.mp noSlip) x mem slipping
    split
    · unfold matchPress
      split
      · rw [resolveTap_queue]
        exact (HoldsOk.of_none true none).settle _ fun _ => rfl
      · rename_i e _ _ length _
        have begun : HoldsOk (startHold e (strike s.judge time e.due) s).queue.entries true := by
          rw [startHold_queue]
          exact .move true (fun x hx hold => by simp [none x hx] at hold) (fun _ => rfl) (fun _ _ => rfl) nofun
        simp only [strikeHold]
        split
        · rw [resolveTail_queue]
          exact begun.settle _ (f := fun x => { x with state := .judged, tail := some .ok }) fun _ => rfl
        · exact begun
    · exact .of_none true none

/-- A release, at a panel that was down: the hold held slips, or ends (R59). -/
theorem judgeRelease_holds {s : State} (time : Nat) (h : HoldsOk s.queue.entries true) :
    HoldsOk (judgeRelease time s).queue.entries false := by
  simp only [judgeRelease]
  split
  · rename_i e held
    have mem := List.mem_of_find?_eq_some held
    have holding := e.inHold_iff.mpr (.inl (by simpa using List.find?_some held))
    have slips : HoldsOk (updateEntry e.due (fun x => { x with state := .slipping time }) s).queue.entries false := by
      rw [updateEntry_queue]
      exact .move false (fun x hx hold => h.one x hx e mem hold holding) (fun _ => rfl) nofun (fun _ _ => rfl)
    split
    · rw [resolveTail_queue]
      exact slips.settle _ fun _ => rfl
    · exact slips
  · rename_i noHold
    refine .of_none false fun x mem => ?_
    rw [← Bool.not_eq_true, x.inHold_iff]
    rintro (holding | slipping)
    · exact (List.find?_eq_none.mp noHold) x mem holding
    · cases h.slipping x mem slipping

/-- Holds as a sample moves the detector; outside PLAYING and LOST there is none. -/
theorem detect_holds {s : State} (quiet : s.station.state.judges = false → ∀ x ∈ s.queue.entries, x.inHold = false)
    (h : HoldsOk s.queue.entries s.sense.detector.down) : HoldsOk (detect s).queue.entries (detect s).sense.detector.down := by
  have set (d : Detector) (same : d.down = s.sense.detector.down) :
      HoldsOk (setDetector d s).queue.entries (setDetector d s).sense.detector.down := by
    simpa [setDetector, same] using h
  unfold detect
  split
  · rename_i detector
    split
    · exact set _ (by simp [detector, Detector.down])
    · exact h
  · rename_i candidate detector
    have up : HoldsOk s.queue.entries false := by simpa [detector, Detector.down] using h
    split
    · simp only [confirmPress, detector, emitPress]
      split
      · simpa [setDetector, Detector.down] using
          judgePress_holds (s := setDetector .pressed s) _ (by simpa using up)
      · rename_i idle
        exact .of_none _ (by simpa using quiet (by simpa using idle))
    · exact set _ (by simp [detector, Detector.down])
  · rename_i detector
    split
    · exact set _ (by simp [detector, Detector.down])
    · exact h
  · rename_i detector
    split <;> exact set _ (by simp [detector, Detector.down])
  · rename_i candidate detector
    have down : HoldsOk s.queue.entries true := by simpa [detector, Detector.down] using h
    split
    · simp only [confirmRelease, detector, emitRelease]
      split
      · simpa [setDetector, Detector.down] using
          judgeRelease_holds (s := setDetector .released s) _ (by simpa using down)
      · rename_i idle
        exact .of_none _ (by simpa using quiet (by simpa using idle))
    · exact set _ (by simp [detector, Detector.down])

theorem takeSample_holds {s : State} (raws : Quad (BitVec 12))
    (quiet : s.station.state.judges = false → ∀ x ∈ s.queue.entries, x.inHold = false)
    (h : HoldsOk s.queue.entries s.sense.detector.down) :
    HoldsOk (takeSample raws s).queue.entries (takeSample raws s).sense.detector.down := by
  have read : HoldsOk (readZones raws s).queue.entries (readZones raws s).sense.detector.down := by
    simpa [readZones_detector] using h
  have detected : HoldsOk (sampleDetected raws s).queue.entries (sampleDetected raws s).sense.detector.down := by
    unfold sampleDetected
    split
    · exact read
    · exact detect_holds (by simpa using quiet) read
  have queue : (takeSample raws s).queue = (sampleDetected raws s).queue := by
    simp only [takeSample]
    split <;> simp
  rw [queue, takeSample_detector]
  exact detected

/-! ### Entries in IDLE -/

/-- All that `waitingSound` says. -/
structure State.WaitingOk (s : State) : Prop where
  idle : s.station.state = .idle → ∀ e ∈ s.queue.entries, e.state.isWaiting = true
  new : ∀ e, s.queue.pendingInsertion = some e → e.state.isWaiting = true

theorem waitingSound_iff (s : State) : waitingSound s = true ↔ s.WaitingOk := by
  simp only [waitingSound, Bool.and_eq_true, implies_iff, beq_iff_eq, List.all_eq_true, Option.all_eq_true]
  exact ⟨fun ⟨idle, new⟩ => ⟨idle, new⟩, fun ⟨idle, new⟩ => ⟨idle, new⟩⟩

/-- Outside PLAYING and LOST no entry is in a hold. -/
theorem State.WaitingOk.quiet {s : State} (h : s.WaitingOk) (queue : s.QueueOk) (state : s.station.state.judges = false) :
    ∀ x ∈ s.queue.entries, x.inHold = false := by
  intro x mem
  by_cases idle : s.station.state = .idle
  · exact NoteEntry.inHold_of_waiting (h.idle idle x mem)
  · have closed : s.station.state.holdsNotes = false := by
      cases same : s.station.state <;> simp_all [StationState.judges, StationState.holdsNotes, StationState.takesNotes]
    simp [(queue.confined closed).1] at mem

/-- The entries of `t` stand in `s` with their states, with no new insertion pending and the panel as it was. -/
structure State.QueueWithin (s t : State) : Prop where
  entries : StatesWithin t.queue.entries s.queue.entries
  new : t.queue.pendingInsertion = none ∨ t.queue.pendingInsertion = s.queue.pendingInsertion
  idle : t.station.state = .idle → s.station.state = .idle ∨ t.queue.entries = []
  down : t.sense.detector.down = s.sense.detector.down ∨ t.queue.entries = []

theorem State.QueueWithin.of_same {s t : State} (queue : t.queue = s.queue) (idle : t.station.state = .idle → s.station.state = .idle)
    (sense : t.sense.detector = s.sense.detector) : s.QueueWithin t :=
  ⟨.of_subset (by simp [queue]), .inr (by rw [queue]), fun h => .inl (idle h), .inl (by rw [sense])⟩

theorem State.QueueWithin.of_emptied {s t : State} (entries : t.queue.entries = []) (new : t.queue.pendingInsertion = none) :
    s.QueueWithin t :=
  ⟨.of_subset (by simp [entries]), .inl new, fun _ => .inr entries, .inr entries⟩

theorem State.QueueWithin.trans {s t u : State} (h : s.QueueWithin t) (h' : t.QueueWithin u) : s.QueueWithin u := by
  have empty (none : t.queue.entries = []) : u.queue.entries = [] := by
    rw [List.eq_nil_iff_forall_not_mem]
    intro x mem
    obtain ⟨y, inList, -⟩ := h'.entries x mem
    simp [none] at inList
  refine ⟨fun x mem => ?_, ?_, fun idle => ?_, ?_⟩
  · obtain ⟨y, hy, due, state⟩ := h'.entries x mem
    obtain ⟨z, hz, due', state'⟩ := h.entries y hy
    exact ⟨z, hz, due'.trans due, state'.trans state⟩
  · rcases h'.new with none | same
    · exact .inl none
    · exact h.new.imp same.trans same.trans
  · rcases h'.idle idle with was | none
    · exact (h.idle was).imp_right empty
    · exact .inr none
  · rcases h'.down with same | none
    · exact h.down.imp same.trans empty
    · exact .inr none

theorem State.WaitingOk.of_within {s t : State} (h : s.WaitingOk) (within : s.QueueWithin t) : t.WaitingOk := by
  refine ⟨fun idle e mem => ?_, fun e held => ?_⟩
  · rcases within.idle idle with was | none
    · obtain ⟨y, inList, -, state⟩ := within.entries e mem
      exact state ▸ h.idle was y inList
    · simp [none] at mem
  · rcases within.new with none | same
    · simp [none] at held
    · exact h.new e (same ▸ held)

/-- What is kept of holds and of entries in IDLE, event by event. -/
structure State.RestOk (s : State) : Prop where
  waiting : s.WaitingOk
  holds : HoldsOk s.queue.entries s.sense.detector.down

theorem State.RestOk.of_within {s t : State} (h : s.RestOk) (within : s.QueueWithin t) : t.RestOk := by
  refine ⟨h.waiting.of_within within, ?_⟩
  rcases within.down with same | none
  · rw [same]
    exact h.holds.of_within within.entries
  · exact .of_none _ (by simp [none])

/-- Judging outside IDLE, the panel as it was. -/
theorem State.RestOk.of_judged {s t : State} (h : s.RestOk) (judged : s.judgedTo t)
    (idle : t.station.state = .idle → s.station.state = .idle ∧ t.queue.entries = s.queue.entries)
    (holds : HoldsOk t.queue.entries t.sense.detector.down) : t.RestOk := by
  refine ⟨⟨fun state e mem => ?_, fun e held => h.waiting.new e (by rwa [judged.queue] at held)⟩, holds⟩
  obtain ⟨was, same⟩ := idle state
  exact h.waiting.idle was e (same ▸ mem)

theorem testFailure_within (s : State) : s.QueueWithin (testFailure s) := by
  unfold testFailure
  split
  · exact .of_emptied rfl rfl
  · exact .of_same rfl id rfl

theorem examineDone_within (s : State) : s.QueueWithin (examineDone s) := by
  refine .of_same (by simp) (fun idle => ?_) (by simp)
  unfold examineDone at idle
  split at idle
  · cases idle
  · exact idle

theorem heardFrame_within (s : State) : s.QueueWithin (heardFrame s) := by
  refine .of_same (by simp) (fun idle => ?_) (by simp)
  unfold heardFrame at idle
  split at idle <;> simp_all [setState, setPattern]

theorem adopt_within (sender : Nat) (k : Carried) (s : State) : s.QueueWithin (adopt sender k s) := by
  unfold adopt
  split
  · have set (x : TallyUnit) : s.QueueWithin (s.setTally x) := .of_same rfl id rfl
    exact (set _).trans (testFailure_within _)
  · exact .of_same rfl id rfl

theorem examineClosure_within (sender due : Nat) (g : Grade) (s : State) :
    s.QueueWithin (examineClosure sender due g s) := by
  have queue : (hearClosure sender due g s).queue = { s.queue with entries := retouch due (fun e =>
      if e.partners.contains sender && e.headUnreported then { e with chordClosed := true } else e) s.queue.entries } := by
    simp [hearClosure, closeEntry, updateEntry_queue]
  have within : s.QueueWithin (hearClosure sender due g s) := by
    refine ⟨?_, .inr (by rw [queue]), fun idle => .inl (by simpa using idle), .inl (by simp)⟩
    rw [queue]
    exact .retouch _ (fun e => by split <;> exact ⟨rfl, rfl⟩) _
  unfold examineClosure
  split
  · exact within
  · exact .of_same rfl id rfl

theorem entryReported_within (item : ReportItem) (s : State) : s.QueueWithin (entryReported item s) := by
  refine ⟨?_, .inr (by rw [entryReported_queue]), fun idle => .inl (by simpa using idle), .inl (by simp)⟩
  rw [entryReported_queue]
  cases item.kind with
  | head => exact StatesWithin.retouch item.due (f := fun x => { x with headSent := true }) (fun _ => ⟨rfl, rfl⟩) _
  | forced => exact .of_subset fun _ mem => mem
  | tap | tail => exact .of_subset fun _ mem => (List.mem_filter.mp mem).1

theorem completeReport_within (l : Latch) (s : State) : s.QueueWithin (completeReport l s) := by
  cases l with
  | judge j =>
    have applied : s.QueueWithin (judgeApplied j s) :=
      (entryReported_within j.item s).trans (.of_same (judgeApplied_queue j s) (by simp) (by simp))
    simp only [completeReport, judgeCompleted_eq]
    split
    · exact applied.trans (testFailure_within _)
    · exact applied
  | mark | status => exact .of_same rfl id rfl

theorem reportAdvance_rest {s : State} (old new : Nat) (h : s.RestOk) : (reportAdvance old new s).RestOk := by
  have taken : (takeThresholds (s.adjust old) (s.adjust new) s).RestOk := by
    refine h.of_judged ((State.judgedTo.refl s).takeThresholds _ _) (fun idle => ?_) ?_
    · have was : s.station.state = .idle := by simpa using idle
      exact ⟨was, by simp [takeThresholds, was, StationState.judges]⟩
    · simpa using takeThresholds_holds _ _ h.holds
  exact taken.of_within (examineDone_within _)

theorem State.RestOk.setClock {s : State} (h : s.RestOk) (c : SongClock) : (s.setClock c).RestOk :=
  h.of_within (.of_same rfl id rfl)

theorem tickBoundary_rest {s : State} (h : s.RestOk) : (tickBoundary s).RestOk := by
  unfold tickBoundary
  split
  · exact reportAdvance_rest _ _ (h.setClock _)
  · exact h

theorem takeMark_rest {s : State} (m : Nat) (h : s.RestOk) : (takeMark m s).RestOk := by
  have forward : (correctForward m s).RestOk := by
    simp only [correctForward]
    split
    · split
      · exact reportAdvance_rest _ _ (h.setClock _)
      · exact h.setClock _
    · exact h
  exact forward.setClock _

/-- A sample outside PLAYING and LOST leaves the queue. -/
theorem takeSample_queue_of_quiet {s : State} (raws : Quad (BitVec 12)) (state : s.station.state.judges = false) :
    (takeSample raws s).queue = s.queue := by
  have detected (t : State) (same : t.station.state.judges = false) : (detect t).queue = t.queue := by
    unfold detect confirmPress confirmRelease emitPress emitRelease
    repeat' split
    all_goals simp_all
  have queue : (takeSample raws s).queue = (sampleDetected raws s).queue := by
    simp only [takeSample]
    split <;> simp
  rw [queue, sampleDetected]
  split
  · simp
  · rw [detected _ (by simpa using state)]
    simp

theorem takeSample_rest {s : State} (raws : Quad (BitVec 12)) (queue : s.QueueOk) (h : s.RestOk) :
    (takeSample raws s).RestOk := by
  refine h.of_judged (takeSample_judged raws s) (fun idle => ?_) (takeSample_holds raws (h.waiting.quiet queue) h.holds)
  have was : s.station.state = .idle := by simpa using idle
  exact ⟨was, by rw [takeSample_queue_of_quiet raws (by simp [was, StationState.judges])]⟩

theorem Detector.restamp_down (tick : Nat) (d : Detector) : (d.restamp tick).down = d.down := by cases d <;> rfl

theorem noteEffect_rest {s : State} {d : Decision} {f : NoteFrame} (held : s.line.decision = some d)
    (frame : d.frame = .note f) (queue : s.QueueOk) (h : s.RestOk) : (noteEffect d (heardEnd s)).RestOk := by
  rcases noteEffect_cases held frame queue with ⟨-, same⟩ | ⟨-, r, same⟩ | ⟨e, new, same⟩ <;> rw [same]
  · exact h.of_within (.of_same (by simp) (by simp) (by simp))
  · exact h.of_within ⟨.of_subset (by simp [recordRefusal]), .inr (by simp [recordRefusal]), fun idle => .inl (by simpa using idle),
      .inl (by simp)⟩
  · have waits := h.waiting.new e new
    refine ⟨⟨fun idle x mem => ?_, nofun⟩, ?_⟩
    · rcases mem_insertEntry.mp mem with rfl | mem
      · exact waits
      · exact h.waiting.idle (by simpa using idle) x mem
    · simpa using h.holds.insert (NoteEntry.inHold_of_waiting waits)

theorem decideFrame_rest {s : State} (ahead : Bool) (f : Frame) (h : s.RestOk) : (decideFrame ahead f s).RestOk := by
  refine ⟨⟨h.waiting.idle, fun e new => ?_⟩, h.holds⟩
  obtain ⟨n, adj, -, made, -⟩ := insertionOf_some (ahead := ahead) (f := f) (s := s) new
  simp [(noteEntry_waiting (testNote_ok made).2.1).1, EntryState.isWaiting]

theorem takeStart_within (f : StartFrame) (s : State) : s.QueueWithin (takeStart f s) :=
  ⟨.of_subset fun _ mem => (List.mem_filter.mp mem).1, .inr rfl, nofun, .inl (Detector.restamp_down _ _)⟩

theorem takeWrite_detector (id : Nat) (v : BitVec 16) (s : State) :
    (takeWrite id v s).sense.detector = s.sense.detector := by
  simp only [takeWrite, applyField]
  split <;> rfl

theorem endStartup_within {s : State} (sampled : s.startupOver = true) (queue : s.QueueOk) : s.QueueWithin (endStartup s) := by
  have startup : s.station.state = .startup := by
    simp only [State.startupOver, Bool.and_eq_true, decide_eq_true_eq] at sampled
    exact sampled.1
  obtain ⟨entries, new⟩ := queue.confined (by simp [startup, StationState.holdsNotes, StationState.takesNotes])
  unfold endStartup
  split
  · exact .of_emptied entries new
  · exact .of_emptied rfl rfl

/-- Every event keeps the holds, and the entries in IDLE, sound. -/
theorem Event.keeps_rest {c : Option Instr} {s t : State} (e : Event c s t) (queue : s.QueueOk) (h : s.RestOk) : t.RestOk := by
  have ended : s.QueueWithin (heardEnd s) := .of_same (by simp) (by simp) (by simp)
  cases e with
  | reset => exact h.of_within (.of_emptied rfl rfl)
  | heardRestart => exact h.of_within (.of_emptied rfl rfl)
  | duplicate => exact h.of_within (.of_emptied rfl rfl)
  | heardStop => exact h.of_within (.of_emptied rfl rfl)
  | losePower =>
    refine h.of_within ⟨.of_subset ?_, .inl ?_, fun idle => .inl (by simpa using idle), .inl (by simp)⟩ <;>
      simp [losePower_queue]
  | abort =>
    refine h.of_within ⟨.of_subset ?_, .inl ?_, fun idle => .inl (by simpa using idle), .inl (by simp)⟩ <;> simp [abortFrame]
  | startupEnd sampled => exact h.of_within (endStartup_within sampled queue)
  | sample raws => exact takeSample_rest raws queue h
  | tick => exact tickBoundary_rest h
  | threshold x judges =>
    refine h.of_judged (takeThreshold_judged x s) (fun idle => ?_) (by simpa using takeThreshold_holds x h.holds)
    rw [(takeThreshold_frame x s).2.2.1] at idle
    simp [idle, StationState.judges] at judges
  | silence => exact h.of_within (.of_same (by simp) nofun (by simp))
  | decided ahead f => exact decideFrame_rest ahead f h
  | told => exact h.of_within (heardFrame_within s)
  | reportSent f l =>
    exact h.of_within ((State.QueueWithin.of_same (by simp) (by simp) (by simp)).trans (completeReport_within l.content _))
  | heardMark d f => exact takeMark_rest _ (h.of_within ended)
  | heardStart d f => exact h.of_within (ended.trans (takeStart_within f _))
  | heardNote d f held frame => exact noteEffect_rest held frame queue h
  | heardClosure d k => exact h.of_within (ended.trans ((examineClosure_within _ _ _ _).trans (adopt_within _ _ _)))
  | heardTail => exact h.of_within (ended.trans (adopt_within _ _ _))
  | zoneFault | zoneRecovery | load | periodsCell => exact h.of_within (.of_same (by simp) (by simp) rfl)
  | heardWrite d f => exact h.of_within (ended.trans (.of_same (by simp) (by simp) (takeWrite_detector _ _ _)))
  | _ => exact h.of_within (.of_same (by simp) (by simp) (by simp))

end Sys2Proof.Machine

namespace Sys2Proof.Machine

/-! ### Judging as a chain of moves -/

/-- One result of the Judge Unit or the Chord Table, with what it is taken on. -/
inductive Judging (s : State) : State → Prop
  | tap (e : NoteEntry) (h : HeadResult) (mem : e ∈ s.queue.entries) (kind : e.kind = .tap)
      (waits : e.state.isWaiting = true) : Judging s (resolveTap e h s)
  | head (e : NoteEntry) (h : HeadResult) (length : Nat) (mem : e ∈ s.queue.entries) (kind : e.kind = .hold length)
      (waits : e.state.isWaiting = true) : Judging s (startHold e h s)
  | lapse (e : NoteEntry) (length : Nat) (mem : e ∈ s.queue.entries) (kind : e.kind = .hold length)
      (waits : e.state.isWaiting = true) : Judging s (lapseHold e s)
  | tail (e : NoteEntry) (r : HoldResult) (mem : e ∈ s.queue.entries) (held : e.inHold = true) :
      Judging s (resolveTail e.due r s)
  | grip (e : NoteEntry) (mem : e ∈ s.queue.entries) (slips : e.state.isSlipping = true) : Judging s (reGrip e s)
  | slip (e : NoteEntry) (time : Nat) (mem : e ∈ s.queue.entries) (holds : e.state.isHolding = true) :
      Judging s (updateEntry e.due (fun x => { x with state := .slipping time }) s)
  | forced (key : Nat) : Judging s (takeForced key s)

/-- A chain of moves of judging. -/
abbrev Judgings : State → State → Prop := Relation.ReflTransGen Judging

theorem Judging.judgings {s t : State} (h : Judging s t) : Judgings s t := .single h

theorem findEntry_some {due : Nat} {s : State} {e : NoteEntry} (h : findEntry due s = some e) :
    e ∈ s.queue.entries ∧ e.due = due :=
  ⟨List.mem_of_find?_eq_some h, by simpa using List.find?_some h⟩

theorem takeLapse_judgings (due : Nat) (s : State) : Judgings s (takeLapse due s) := by
  unfold takeLapse
  split
  · obtain ⟨mem, -⟩ := findEntry_some ‹_›
    split
    · split
      · exact (Judging.tap _ _ mem ‹_› ‹_›).judgings
      · exact (Judging.lapse _ _ mem ‹_› ‹_›).judgings
    · exact .refl
  · exact .refl

theorem takeHoldEnd_judgings (due : Nat) (s : State) : Judgings s (takeHoldEnd due s) := by
  unfold takeHoldEnd
  split
  · obtain ⟨mem, rfl⟩ := findEntry_some ‹_›
    split
    · rename_i h
      exact (Judging.tail _ _ mem (Bool.and_eq_true _ _ ▸ h).1).judgings
    · exact .refl
  · exact .refl

theorem takeGrace_judgings (due : Nat) (s : State) : Judgings s (takeGrace due s) := by
  unfold takeGrace
  split
  · obtain ⟨mem, rfl⟩ := findEntry_some ‹_›
    split
    · exact (Judging.tail _ _ mem (NoteEntry.inHold_iff _ |>.mpr (.inr ‹_›))).judgings
    · exact .refl
  · exact .refl

theorem takeThreshold_judgings (x : Threshold) (s : State) : Judgings s (takeThreshold s x) := by
  unfold takeThreshold
  split
  · exact takeLapse_judgings _ s
  · exact takeHoldEnd_judgings _ s
  · exact takeGrace_judgings _ s
  · exact (Judging.forced _).judgings

theorem foldThresholds_judgings (xs : List Threshold) (s : State) : Judgings s (xs.foldl takeThreshold s) := by
  induction xs generalizing s with
  | nil => exact .refl
  | cons x xs ih => exact (takeThreshold_judgings x s).trans (ih _)

theorem takeThresholds_judgings (old new : Nat) (s : State) : Judgings s (takeThresholds old new s) := by
  unfold takeThresholds
  split
  · exact foldThresholds_judgings _ s
  · exact .refl

theorem judgePress_judgings (time : Nat) (s : State) : Judgings s (judgePress time s) := by
  unfold judgePress
  split
  · rename_i e slips
    exact (Judging.grip e (List.mem_of_find?_eq_some slips) (by simpa using List.find?_some slips)).judgings
  · split
    · rename_i e candidate
      have mem := List.mem_of_find?_eq_some candidate
      have waits : e.state.isWaiting = true := (Bool.and_eq_true _ _ ▸ List.find?_some candidate).1
      unfold matchPress
      split
      · exact (Judging.tap e _ mem ‹_› waits).judgings
      · rename_i length kind
        have begun : Judgings s (startHold e (strike s.judge time e.due) s) := (Judging.head e _ length mem kind waits).judgings
        simp only [strikeHold]
        split
        · refine begun.trans (Judging.tail (s := startHold e _ s)
            { e with state := .holding, head := some (strike s.judge time e.due), headSent := false } .ok ?_ rfl).judgings
          rw [startHold_queue]
          exact mem_retouch.mpr (.inl ⟨e, mem, rfl, rfl⟩)
        · exact begun
    · exact .refl

theorem judgeRelease_judgings (time : Nat) (s : State) : Judgings s (judgeRelease time s) := by
  simp only [judgeRelease]
  split
  · rename_i e held
    have mem := List.mem_of_find?_eq_some held
    have slips := (Judging.slip e time mem (by simpa using List.find?_some held)).judgings
    split
    · refine slips.trans (Judging.tail (s := updateEntry e.due (fun x => { x with state := .slipping time }) s)
        { e with state := .slipping time } .ng ?_ rfl).judgings
      rw [updateEntry_queue]
      exact mem_retouch.mpr (.inl ⟨e, mem, rfl, rfl⟩)
    · exact slips
  · exact .refl

theorem Judging.judged {s t : State} (h : Judging s t) : s.judgedTo t := by
  cases h with
  | tap => exact resolveTap_judged _ _ s
  | head => exact startHold_judged _ _ s
  | lapse => exact lapseHold_judged _ s
  | tail => exact (State.judgedTo.refl s).resolveTail _ _
  | grip => exact (State.judgedTo.refl s).updateEntry _ _
  | slip => exact (State.judgedTo.refl s).updateEntry _ _
  | forced => exact .of_same (by simp) (by simp) (by simp)

@[simp] theorem Judging.station {s t : State} (h : Judging s t) : t.station = s.station := by cases h <;> simp

theorem Judgings.keep {P : State → Prop} (move : ∀ s t, Judging s t → P s → P t) {s t : State} (h : Judgings s t)
    (hs : P s) : P t := by
  induction h with
  | refl => exact hs
  | tail _ last ih => exact move _ _ last ih

/-- Stage 3 of a sample moves the detector, then judges in PLAYING and LOST only. -/
theorem detect_judgings (s : State) :
    (∃ d, detect s = setDetector d s) ∨ s.station.state.judges = true ∧ ∃ d, Judgings (setDetector d s) (detect s) := by
  unfold detect
  split
  · split
    · exact .inl ⟨_, rfl⟩
    · exact .inl ⟨s.sense.detector, rfl⟩
  · rename_i candidate detector
    split
    · simp only [confirmPress, detector, emitPress, setDetector_frame]
      split
      · exact .inr ⟨‹_›, _, judgePress_judgings _ _⟩
      · exact .inl ⟨_, rfl⟩
    · exact .inl ⟨_, rfl⟩
  · split
    · exact .inl ⟨_, rfl⟩
    · exact .inl ⟨s.sense.detector, rfl⟩
  · split <;> exact .inl ⟨_, rfl⟩
  · rename_i candidate detector
    split
    · simp only [confirmRelease, detector, emitRelease, setDetector_frame]
      split
      · exact .inr ⟨‹_›, _, judgeRelease_judgings _ _⟩
      · exact .inl ⟨_, rfl⟩
    · exact .inl ⟨_, rfl⟩

/-- A property that the Sense Unit has no part in, and judging keeps where it happens, a sample keeps. -/
theorem takeSample_keep {P : State → Prop} (sense : ∀ s x, P s → P (s.setSense x))
    (move : ∀ s t, s.station.state.judges = true → Judging s t → P s → P t) {s : State} (raws : Quad (BitVec 12))
    (h : P s) : P (takeSample raws s) := by
  have read : P (readZones raws s) := sense _ _ h
  have detected : P (sampleDetected raws s) := by
    unfold sampleDetected
    split
    · exact read
    · rcases detect_judgings (readZones raws s) with ⟨d, same⟩ | ⟨judges, d, chain⟩
      · rw [same]
        exact sense _ _ read
      · exact (chain.keep (P := fun t => t.station.state.judges = true ∧ P t)
          (fun s t one ⟨state, h⟩ => ⟨by rw [one.station]; exact state, move s t state one h⟩) ⟨by simpa using judges, sense _ _ read⟩).2
  simp only [takeSample, countSample]
  refine sense _ _ ?_
  split
  · exact detected
  · unfold baselineStage trackBaselines
    split
    · split <;> exact sense _ _ detected
    · exact sense _ _ detected

/-- The same of the thresholds an advance passes. -/
theorem takeThresholds_keep {P : State → Prop} (move : ∀ s t, s.station.state.judges = true → Judging s t → P s → P t)
    {s : State} (old new : Nat) (h : P s) : P (takeThresholds old new s) := by
  unfold takeThresholds
  split
  · rename_i judges
    exact ((foldThresholds_judgings _ s).keep (P := fun t => t.station.state.judges = true ∧ P t)
      (fun s t one ⟨state, h⟩ => ⟨by rw [one.station]; exact state, move s t state one h⟩) ⟨judges, h⟩).2
  · exact h

/-- The same of a tick boundary and of a MARK, the DONE condition behind them. -/
theorem tickBoundary_keep {P : State → Prop} (clock : ∀ s c, P s → P (s.setClock c)) (done : ∀ s, P s → P (examineDone s))
    (move : ∀ s t, s.station.state.judges = true → Judging s t → P s → P t) {s : State} (h : P s) : P (tickBoundary s) := by
  unfold tickBoundary
  split
  · exact done _ (takeThresholds_keep move _ _ (clock _ _ h))
  · exact h

theorem takeMark_keep {P : State → Prop} (clock : ∀ s c, P s → P (s.setClock c)) (done : ∀ s, P s → P (examineDone s))
    (move : ∀ s t, s.station.state.judges = true → Judging s t → P s → P t) {s : State} (m : Nat) (h : P s) :
    P (takeMark m s) := by
  have forward : P (correctForward m s) := by
    simp only [correctForward]
    split
    · split
      · exact done _ (takeThresholds_keep move _ _ (clock _ _ h))
      · exact clock _ _ h
    · exact h
  exact clock _ _ forward

theorem takeThreshold_keep {P : State → Prop} (move : ∀ s t, s.station.state.judges = true → Judging s t → P s → P t)
    {s : State} (x : Threshold) (judges : s.station.state.judges = true) (h : P s) : P (takeThreshold s x) :=
  ((takeThreshold_judgings x s).keep (P := fun t => t.station.state.judges = true ∧ P t)
    (fun s t one ⟨state, h⟩ => ⟨by rw [one.station]; exact state, move s t state one h⟩) ⟨judges, h⟩).2

/-! ### The records of the Chord Table -/

/-- All that `chordsSound` says of the records themselves. -/
structure TableOk (chords : List ChordRecord) : Prop where
  room : chords.length ≤ chordCapacity
  keys : (chords.map ChordRecord.key).Nodup
  records : ∀ r ∈ chords, r.sound = true

theorem TableOk.nil : TableOk [] := ⟨Nat.zero_le _, .nil, nofun⟩

theorem TableOk.sublist {l l' : List ChordRecord} (h : TableOk l) (fewer : l'.Sublist l) : TableOk l' :=
  ⟨fewer.length_le.trans h.room, h.keys.sublist (fewer.map _), fun r mem => h.records r (fewer.subset mem)⟩

theorem TableOk.update {l : List ChordRecord} (h : TableOk l) (key : Nat) {f : ChordRecord → ChordRecord}
    (keeps : ∀ r, (f r).key = r.key) (sound : ∀ r, r.sound = true → (f r).sound = true) :
    TableOk (l.map fun r => if r.key = key then f r else r) := by
  refine ⟨by simpa using h.room, ?_, fun x mem => ?_⟩
  · have same : (ChordRecord.key ∘ fun r => if r.key = key then f r else r) = ChordRecord.key := by
      funext r
      dsimp only [Function.comp]
      split
      · exact keeps r
      · rfl
    rw [List.map_map, same]
    exact h.keys
  · obtain ⟨r, inList, rfl⟩ := List.mem_map.mp mem
    have := h.records r inList
    split
    · exact sound r this
    · exact this

theorem TableOk.add {l : List ChordRecord} (h : TableOk l) {r : ChordRecord} (room : l.length < chordCapacity)
    (new : ∀ x ∈ l, x.key ≠ r.key) (sound : r.sound = true) : TableOk (l ++ [r]) := by
  refine ⟨by simp only [List.length_append, List.length_singleton]; omega, ?_, fun x mem => ?_⟩
  · rw [List.map_append, List.map_singleton, List.nodup_append]
    refine ⟨h.keys, by simp, fun k mem k' mem' => ?_⟩
    obtain ⟨x, inList, rfl⟩ := List.mem_map.mp mem
    rw [List.mem_singleton.mp mem']
    exact new x inList
  · rcases List.mem_append.mp mem with mem | mem
    · exact h.records x mem
    · rw [List.mem_singleton.mp mem]
      exact sound

theorem ChordRecord.sound_iff (r : ChordRecord) : r.sound = true ↔
    (∀ p ∈ r.reports, p.1 ∈ r.expected) ∧ (r.reports.map Prod.fst).Nodup ∧ (r.forcedPending = true → r.ownSent = true) := by
  simp [sound, distinct_iff_nodup, and_assoc]

theorem findRecord_none {key : Nat} {s : State} (h : findRecord key s = none) : ∀ r ∈ s.chords, r.key ≠ key := by
  simpa [findRecord] using h

theorem findRecord_some {key : Nat} {s : State} {r : ChordRecord} (h : findRecord key s = some r) :
    r ∈ s.chords ∧ r.key = key :=
  ⟨List.mem_of_find?_eq_some h, by simpa using List.find?_some h⟩

theorem updateRecord_chords (key : Nat) (f : ChordRecord → ChordRecord) (s : State) :
    (updateRecord key f s).chords = s.chords.map fun r => if r.key = key then f r else r := rfl

theorem removeRecord_chords (key : Nat) (s : State) : (removeRecord key s).chords = s.chords.filter fun r => r.key != key := rfl

theorem addRecord_chords (r : ChordRecord) (s : State) : (addRecord r s).chords = s.chords ++ [r] := rfl

/-- An eviction of a record held removes the records of its key. -/
theorem evict_chords {key : Nat} {s : State} (held : (findRecord key s).isSome = true) :
    (evict key s).chords = s.chords.filter fun r => r.key != key := by
  unfold evict
  split
  · simp_all
  · split
    · split <;> simp [removeRecord_chords]
    · rfl

theorem earliestKey_mem {l : List ChordRecord} {k : Nat} (h : earliestKey l = some k) : ∃ r ∈ l, r.key = k := by
  simpa [eq_comm] using List.min?_mem h

theorem earliestKey_isSome {l : List ChordRecord} (h : l ≠ []) : ∃ k, earliestKey l = some k := by
  cases l with
  | nil => exact absurd rfl h
  | cons r rs => exact ⟨_, rfl⟩

/-- A table with room is as it was, a full one gives up its earliest record. -/
theorem makeRoom_cases (s : State) : s.chords.length < chordCapacity ∧ makeRoom s = s ∨
    ∃ k r, earliestKey s.chords = some k ∧ findRecord k s = some r ∧ makeRoom s = evict k s := by
  unfold makeRoom
  split
  · rename_i full
    have nonempty : s.chords ≠ [] := by
      rintro none
      simp [none, chordCapacity] at full
    obtain ⟨k, earliest⟩ := earliestKey_isSome nonempty
    obtain ⟨x, mem, key⟩ := earliestKey_mem earliest
    obtain ⟨r, found⟩ := Option.isSome_iff_exists.mp
      (show (findRecord k s).isSome = true by simpa [findRecord] using ⟨x, mem, key⟩)
    exact .inr ⟨k, r, earliest, found, by rw [earliest]⟩
  · exact .inl ⟨Nat.lt_of_not_le ‹_›, rfl⟩

theorem makeRoom_sublist (s : State) : (makeRoom s).chords.Sublist s.chords := by
  rcases makeRoom_cases s with ⟨-, same⟩ | ⟨k, r, -, found, same⟩ <;> rw [same]
  rw [evict_chords (by simp [found])]
  exact List.filter_sublist

theorem makeRoom_length {s : State} (h : s.chords.length ≤ chordCapacity) : (makeRoom s).chords.length < chordCapacity := by
  rcases makeRoom_cases s with ⟨room, same⟩ | ⟨k, r, -, found, same⟩ <;> rw [same]
  · exact room
  · rw [evict_chords (by simp [found])]
    obtain ⟨mem, key⟩ := findRecord_some found
    have := List.length_filter_lt_length_iff_exists (p := fun x : ChordRecord => x.key != k) |>.mpr ⟨r, mem, by simp [key]⟩
    omega

theorem tellChord_table {s : State} (e : NoteEntry) (g : Grade) (h : TableOk s.chords) : TableOk (tellChord e g s).chords := by
  unfold tellChord
  split
  · exact h
  · split
    · exact h.update e.due (f := fun r => { r with own := some g }) (fun _ => rfl) fun _ sound => sound
    · rename_i absent
      rw [addRecord_chords]
      refine (h.sublist (makeRoom_sublist s)).add (makeRoom_length h.room) (fun x mem => ?_) rfl
      exact findRecord_none (key := e.due) (by simpa using absent) x ((makeRoom_sublist s).subset mem)

theorem addReport_sound {r : ChordRecord} {sender : Nat} {g : Grade} (expected : sender ∈ r.expected) (h : r.sound = true) :
    (addReport sender g r).sound = true := by
  obtain ⟨named, once, pending⟩ := r.sound_iff.mp h
  unfold addReport
  split
  · exact h
  · rename_i new
    refine (ChordRecord.sound_iff _).mpr ⟨fun p mem => ?_, ?_, pending⟩
    · rcases List.mem_append.mp mem with mem | mem
      · exact named p mem
      · rw [List.mem_singleton.mp mem]
        exact expected
    · simp only [List.map_append, List.map_singleton, List.nodup_append]
      refine ⟨once, by simp, fun a mem b mem' => ?_⟩
      obtain ⟨p, inList, rfl⟩ := List.mem_map.mp mem
      rw [List.mem_singleton.mp mem']
      rintro rfl
      exact new (List.any_eq_true.mpr ⟨p, inList, by simp⟩)

/-- Members of a table with one key are one record. -/
theorem TableOk.unique {l : List ChordRecord} (h : TableOk l) {r r' : ChordRecord} (mem : r ∈ l) (mem' : r' ∈ l)
    (key : r.key = r'.key) : r = r' := List.inj_on_of_nodup_map h.keys mem mem' key

theorem hearReport_table {s : State} (sender due : Nat) (g : Grade) (h : TableOk s.chords) :
    TableOk (hearReport sender due g s).chords := by
  unfold hearReport
  split
  · rename_i r found
    split
    · rename_i expected
      obtain ⟨mem, key⟩ := findRecord_some found
      rw [updateRecord_chords]
      have same : (s.chords.map fun x => if x.key = due then addReport sender g x else x) =
          s.chords.map fun x => if x.key = due then (if sender ∈ x.expected then addReport sender g x else x) else x := by
        refine List.map_congr_left fun x inList => ?_
        by_cases here : x.key = due
        · rw [h.unique inList mem (here.trans key.symm)]
          simp [key, List.contains_iff_mem.mp expected]
        · simp [here]
      rw [same]
      refine h.update due (fun x => ?_) fun x sound => ?_
      · unfold addReport
        split
        · split <;> rfl
        · rfl
      · split
        · exact addReport_sound ‹_› sound
        · exact sound
    · exact h
  · rename_i absent
    split
    · split
      · rename_i e found joins
        simp only [Bool.and_eq_true, decide_eq_true_eq] at joins
        obtain ⟨⟨⟨partner, -⟩, -⟩, room⟩ := joins
        rw [addRecord_chords]
        have due := (findEntry_some found).2
        refine h.add room (fun x mem => ?_) ((ChordRecord.sound_iff _).mpr ⟨?_, by simp [openRecord], nofun⟩)
        · simpa [openRecord, due] using findRecord_none absent x mem
        · simpa [openRecord] using partner
      · exact h
    · exact h

theorem closeRecord_table {s : State} (sender due : Nat) (h : TableOk s.chords) : TableOk (closeRecord sender due s).chords := by
  have removed : TableOk (s.chords.filter fun r => r.key != due) := h.sublist List.filter_sublist
  unfold closeRecord
  split
  · split
    · split
      · simpa [removeRecord_chords] using removed
      · exact removed
    · exact h
  · exact h

end Sys2Proof.Machine

namespace Sys2Proof.Machine

/-! ### The Chord Table and where the report list may hold items, in every event -/

theorem takeForced_table {s : State} (key : Nat) (h : TableOk s.chords) : TableOk (takeForced key s).chords := by
  unfold takeForced
  split
  · rename_i r found
    split
    · rename_i due
      simp only [Bool.and_eq_true] at due
      obtain ⟨mem, here⟩ := findRecord_some found
      have same : (updateRecord key (fun r => { r with forcedPending := true }) s).chords = s.chords.map fun x =>
          if x.key = key then { x with forcedPending := x.ownSent } else x := by
        rw [updateRecord_chords]
        refine List.map_congr_left fun x inList => ?_
        by_cases same : x.key = key
        · rw [h.unique inList mem (same.trans here.symm)]
          simp [here, due.1]
        · simp [same]
      rw [(addItem_frame _ _ _).2.2.2.2.2.2.2.2.1, same]
      refine h.update key (f := fun x => { x with forcedPending := x.ownSent }) (fun _ => rfl) fun x sound => ?_
      obtain ⟨named, once, -⟩ := x.sound_iff.mp sound
      exact (ChordRecord.sound_iff _).mpr ⟨named, once, id⟩
    · exact h
  · exact h

theorem resolveTap_chords (e : NoteEntry) (h : HeadResult) (s : State) : (resolveTap e h s).chords =
    (tellChord e h.grade (updateEntry e.due (fun x => { x with state := .judged, head := some h }) s)).chords := by
  simp [resolveTap]

theorem startHold_chords (e : NoteEntry) (h : HeadResult) (s : State) : (startHold e h s).chords =
    (tellChord e h.grade
      (updateEntry e.due (fun x => { x with state := .holding, head := some h, headSent := false }) s)).chords := by
  simp [startHold]

theorem lapseHold_chords (e : NoteEntry) (s : State) : (lapseHold e s).chords =
    (tellChord e .miss (updateEntry e.due
      (fun x => { x with state := .judged, head := some .lapse, headSent := false, tail := some .ng }) s)).chords := by
  simp [lapseHold]

theorem Judging.keeps_table {s t : State} (move : Judging s t) (h : TableOk s.chords) : TableOk t.chords := by
  cases move with
  | tap e r =>
    rw [resolveTap_chords]
    exact tellChord_table e _ h
  | head e r =>
    rw [startHold_chords]
    exact tellChord_table e _ h
  | lapse e =>
    rw [lapseHold_chords]
    exact tellChord_table e _ h
  | forced key => exact takeForced_table key h
  | tail | grip | slip => simpa using h

/-- All that `chordsSound` and `reportsConfined` say. -/
structure State.ChordsOk (s : State) : Prop where
  table : TableOk s.chords
  confined : s.station.state.judges = false → s.chords = [] ∧ s.reports = []

theorem chordsOk_iff (s : State) : (chordsSound s = true ∧ reportsConfined s = true) ↔ s.ChordsOk := by
  simp only [chordsSound, reportsConfined, Bool.and_eq_true, decide_eq_true_eq, distinct_iff_nodup, List.all_eq_true,
    implies_iff, Bool.not_eq_true', List.isEmpty_iff]
  exact ⟨fun ⟨⟨⟨⟨room, keys⟩, records⟩, chords⟩, reports⟩ => ⟨⟨room, keys, records⟩, fun h => ⟨chords h, reports h⟩⟩,
    fun ⟨⟨room, keys, records⟩, confined⟩ =>
      ⟨⟨⟨⟨room, keys⟩, records⟩, fun h => (confined h).1⟩, fun h => (confined h).2⟩⟩

theorem State.ChordsOk.of_fewer {s t : State} (h : s.ChordsOk) (chords : t.chords.Sublist s.chords)
    (reports : t.reports.Sublist s.reports)
    (state : t.station.state.judges = false → s.station.state.judges = false ∨ t.chords = [] ∧ t.reports = []) :
    t.ChordsOk := by
  refine ⟨h.table.sublist chords, fun closed => ?_⟩
  rcases state closed with was | none
  · obtain ⟨noChords, noReports⟩ := h.confined was
    exact ⟨List.sublist_nil.mp (noChords ▸ chords), List.sublist_nil.mp (noReports ▸ reports)⟩
  · exact none

theorem State.ChordsOk.of_same {s t : State} (h : s.ChordsOk) (chords : t.chords = s.chords) (reports : t.reports = s.reports)
    (state : t.station.state.judges = false → s.station.state.judges = false) : t.ChordsOk :=
  h.of_fewer (chords ▸ .refl _) (reports ▸ .refl _) fun closed => .inl (state closed)

theorem State.ChordsOk.of_emptied {t : State} (chords : t.chords = []) (reports : t.reports = []) : t.ChordsOk :=
  ⟨chords ▸ .nil, fun _ => ⟨chords, reports⟩⟩

/-- Judging in PLAYING and LOST, where neither table nor list is confined. -/
theorem Judging.keeps_chords {s t : State} (judges : s.station.state.judges = true) (move : Judging s t) (h : s.ChordsOk) :
    t.ChordsOk := by
  refine ⟨move.keeps_table h.table, fun closed => ?_⟩
  rw [move.station, judges] at closed
  cases closed

theorem examineDone_chordsOk {s : State} (h : s.ChordsOk) : (examineDone s).ChordsOk := by
  unfold examineDone
  split
  · rename_i done
    obtain ⟨-, -, -, reports, chords⟩ := (doneCondition_iff s).mp done.2
    exact .of_emptied chords reports
  · exact h

theorem testFailure_chordsOk {s : State} (h : s.ChordsOk) : (testFailure s).ChordsOk := by
  unfold testFailure
  split
  · exact .of_emptied rfl rfl
  · exact h

theorem heardFrame_chordsOk {s : State} (h : s.ChordsOk) : (heardFrame s).ChordsOk := by
  refine h.of_same (by simp) (by simp) fun closed => ?_
  unfold heardFrame at closed
  split at closed <;> simp_all [setState, setPattern, StationState.judges]

theorem dropEvicted_sublist (s : State) : (dropEvicted s).reports.Sublist s.reports := by
  unfold dropEvicted
  split
  · split
    · exact List.tail_sublist _
    · exact .refl _
  · exact .refl _

theorem adopt_chordsOk {s : State} (sender : Nat) (k : Carried) (h : s.ChordsOk) : (adopt sender k s).ChordsOk := by
  unfold adopt
  split
  · exact testFailure_chordsOk (h.of_same rfl rfl id)
  · exact h

theorem closeRecord_reports (sender due : Nat) (s : State) : (closeRecord sender due s).reports.Sublist s.reports := by
  unfold closeRecord
  split
  · split
    · split
      · simp [removeForced]
      · simp
    · simp
  · simp

theorem closeRecord_sublist (sender due : Nat) (s : State) : (closeRecord sender due s).chords.Sublist s.chords := by
  unfold closeRecord
  split
  · split
    · split <;> simp [removeRecord]
    · simp
  · simp

theorem examineClosure_chordsOk {s : State} (sender due : Nat) (g : Grade) (h : s.ChordsOk) :
    (examineClosure sender due g s).ChordsOk := by
  unfold examineClosure
  split
  · refine h.of_fewer ?_ ?_ fun closed => .inl (by simpa using closed)
    · simpa [hearClosure] using closeRecord_sublist sender due s
    · simpa [hearClosure] using closeRecord_reports sender due s
  · exact h

theorem examineReport_chordsOk {s : State} (sender due : Nat) (g : Grade) (h : s.ChordsOk) :
    (examineReport sender due g s).ChordsOk := by
  unfold examineReport
  split
  · rename_i taken
    refine ⟨hearReport_table sender due g h.table, fun closed => ?_⟩
    simp only [Bool.and_eq_true] at taken
    rw [(hearReport_frame _ _ _ _).2.2.1, taken.1] at closed
    cases closed
  · exact h

theorem memberSent_chordsOk {s : State} (due : Nat) (h : s.ChordsOk) : (memberSent due s).ChordsOk := by
  have sent : (updateRecord due (fun r => { r with ownSent := true }) s).ChordsOk := by
    refine ⟨h.table.update due (f := fun r => { r with ownSent := true }) (fun _ => rfl) fun r sound => ?_, fun closed => ?_⟩
    · obtain ⟨named, once, -⟩ := r.sound_iff.mp sound
      exact (ChordRecord.sound_iff _).mpr ⟨named, once, fun _ => rfl⟩
    · obtain ⟨chords, reports⟩ := h.confined (by simpa using closed)
      simp [updateRecord_chords, chords, reports]
  simp only [memberSent]
  split
  · rename_i passed
    simp only [Bool.and_eq_true] at passed
    exact (Judging.forced due).keeps_chords (by simpa using passed.1) sent
  · exact sent

theorem closeOwnRecord_reports (due : Nat) (s : State) : (closeOwnRecord due s).reports.Sublist s.reports := by
  unfold closeOwnRecord
  split
  · split
    · simp [removeForced]
    · simp
  · simp

theorem closeOwnRecord_sublist (due : Nat) (s : State) : (closeOwnRecord due s).chords.Sublist s.chords := by
  unfold closeOwnRecord
  split
  · split <;> simp [removeRecord]
  · simp

theorem chordReported_chordsOk {s : State} (j : JudgeLatch) (h : s.ChordsOk) : (chordReported j s).ChordsOk := by
  unfold chordReported
  split
  · exact h.of_fewer (by simpa using closeOwnRecord_sublist _ s) (by simpa using closeOwnRecord_reports _ s)
      fun closed => .inl (by simpa using closed)
  · exact memberSent_chordsOk _ h
  · refine h.of_fewer ?_ ?_ fun closed => .inl ?_
    · split <;> simp [removeRecord_chords]
    · split <;> simp
    · rw [(signalFlash_frame _ _).2.2.1] at closed
      split at closed <;> simpa using closed
  · exact h
  · exact h
  · exact h

theorem completeReport_chordsOk {s : State} (l : Latch) (h : s.ChordsOk) : (completeReport l s).ChordsOk := by
  cases l with
  | judge j =>
    have applied : (judgeApplied j s).ChordsOk :=
      chordReported_chordsOk j (h.of_fewer (by simp) (by simpa using List.tail_sublist _)
        fun closed => .inl (by simpa using closed))
    simp only [completeReport, judgeCompleted_eq]
    split
    · exact testFailure_chordsOk applied
    · exact applied
  | mark | status => exact h

theorem endStartup_chordsOk {s : State} (sampled : s.startupOver = true) (h : s.ChordsOk) : (endStartup s).ChordsOk := by
  have startup : s.station.state = .startup := by
    simp only [State.startupOver, Bool.and_eq_true, decide_eq_true_eq] at sampled
    exact sampled.1
  obtain ⟨chords, reports⟩ := h.confined (by simp [startup, StationState.judges])
  unfold endStartup
  split
  · exact .of_emptied chords reports
  · exact .of_emptied rfl rfl

/-- Every event keeps the Chord Table sound and the report list confined. -/
theorem Event.keeps_chords {c : Option Instr} {s t : State} (e : Event c s t) (h : s.ChordsOk) : t.ChordsOk := by
  have ended : (heardEnd s).ChordsOk := h.of_same (by simp) (by simp) (by simp)
  have setSense (s : State) (x : SenseUnit) (h : s.ChordsOk) : (s.setSense x).ChordsOk := h.of_same rfl rfl id
  have setClock (s : State) (x : SongClock) (h : s.ChordsOk) : (s.setClock x).ChordsOk := h.of_same rfl rfl id
  have move (s t : State) (judges : s.station.state.judges = true) (m : Judging s t) (h : s.ChordsOk) : t.ChordsOk :=
    m.keeps_chords judges h
  cases e with
  | reset => exact .of_emptied rfl rfl
  | heardRestart => exact .of_emptied rfl rfl
  | duplicate => exact .of_emptied rfl rfl
  | heardStop => exact .of_emptied rfl rfl
  | startupEnd sampled => exact endStartup_chordsOk sampled h
  | sample raws => exact takeSample_keep setSense move raws h
  | tick => exact tickBoundary_keep setClock (fun _ => examineDone_chordsOk) move h
  | heardMark d f => exact takeMark_keep setClock (fun _ => examineDone_chordsOk) move _ ended
  | threshold x judges => exact takeThreshold_keep move x judges h
  | silence playing => exact h.of_same (by simp) (by simp) nofun
  | losePower => exact h.of_fewer (by simp) (by simpa using dropEvicted_sublist s) fun closed => .inl (by simpa using closed)
  | abort =>
    exact h.of_fewer (by simp) (by simpa [abortFrame] using dropEvicted_sublist s) fun closed => .inl (by simpa using closed)
  | reportSent f l => exact completeReport_chordsOk _ (h.of_same (by simp) (by simp) (by simp))
  | heardStart d f => exact ended.of_same (by simp) (by simp) nofun
  | heardMember => exact examineReport_chordsOk _ _ _ ended
  | heardClosure => exact adopt_chordsOk _ _ (examineClosure_chordsOk _ _ _ ended)
  | heardTail => exact adopt_chordsOk _ _ ended
  | told => exact heardFrame_chordsOk h
  | _ => exact h.of_same (by simp) (by simp) (by simp)

end Sys2Proof.Machine

namespace Sys2Proof.Machine

/-! ### The JUDGE frame in flight -/

/-- What a frame in flight has latched of a JUDGE frame. -/
def InFlight.judge (f : InFlight) : Option JudgeLatch :=
  match f.latched with
  | some { content := .judge j, .. } => some j
  | _ => none

/-- The JUDGE frame the station has latched in flight. -/
def State.judgeInFlight (s : State) : Option JudgeLatch := s.line.inFlight.bind InFlight.judge

theorem State.judgeInFlight_some {s : State} {j : JudgeLatch} (h : s.judgeInFlight = some j) :
    ∃ src header tick payload mismatch, s.line.inFlight =
      some { source := src, header := header, startTick := tick, latched := some { content := .judge j, payload := payload },
             mismatch := mismatch } := by
  obtain ⟨f, flying, latched⟩ := Option.bind_eq_some_iff.mp h
  unfold InFlight.judge at latched
  split at latched
  · rename_i payload held
    cases latched
    exact ⟨f.source, f.header, f.startTick, payload, f.mismatch, by rw [flying, ← held]⟩
  · cases latched

theorem State.judgeInFlight_none {s : State} (h : s.judgeInFlight = none) (src : Source) (header : Byte) (tick : Nat)
    (j : JudgeLatch) (payload : List Byte) (mismatch : Bool) : s.line.inFlight ≠
      some { source := src, header := header, startTick := tick, latched := some { content := .judge j, payload := payload },
             mismatch := mismatch } := by
  intro flying
  simp [judgeInFlight, flying, InFlight.judge] at h

theorem evictedKey_eq (s : State) :
    evictedKey s = s.judgeInFlight.bind fun j => if j.evicted then some j.item.due else none := by
  cases flying : s.judgeInFlight with
  | some j =>
    obtain ⟨_, _, _, _, _, held⟩ := State.judgeInFlight_some flying
    simp [evictedKey, held]
  | none =>
    unfold evictedKey
    split
    · exact absurd ‹_› (State.judgeInFlight_none flying _ _ _ _ _ _)
    · rfl

theorem forcedInFlight_eq (key : Nat) (s : State) :
    forcedInFlight key s = s.judgeInFlight.any fun j => j.form == .forced && j.item.due == key := by
  cases flying : s.judgeInFlight with
  | some j =>
    obtain ⟨_, _, _, _, _, held⟩ := State.judgeInFlight_some flying
    simp [forcedInFlight, held]
  | none =>
    unfold forcedInFlight
    split
    · exact absurd ‹_› (State.judgeInFlight_none flying _ _ _ _ _ _)
    · rfl

theorem dropEvicted_eq (s : State) : dropEvicted s =
    if s.judgeInFlight.any JudgeLatch.evicted then s.setReports s.reports.tail else s := by
  cases flying : s.judgeInFlight with
  | some j =>
    obtain ⟨_, _, _, _, _, held⟩ := State.judgeInFlight_some flying
    simp [dropEvicted, held]
  | none =>
    unfold dropEvicted
    split
    · exact absurd ‹_› (State.judgeInFlight_none flying _ _ _ _ _ _)
    · rfl

theorem InFlight.judge_markEvicted (f : InFlight) :
    InFlight.judge { f with latched := f.latched.map markEvicted } = f.judge.map fun j => { j with evicted := true } := by
  obtain ⟨_, _, _, latched, _⟩ := f
  rcases latched with _ | ⟨_ | _ | _, _⟩ <;> rfl

theorem condemnInFlight_judge (s : State) :
    (condemnInFlight s).judgeInFlight = s.judgeInFlight.map fun j => { j with evicted := true } := by
  cases flying : s.line.inFlight with
  | none => simp [State.judgeInFlight, condemnInFlight, flying]
  | some f => simpa [State.judgeInFlight, condemnInFlight, flying] using f.judge_markEvicted

theorem latchAtHead_iff (s : State) : latchAtHead s = true ↔
    ∀ j, s.judgeInFlight = some j → (∃ f, s.line.inFlight = some f ∧ f.source = .report) ∧
      s.reports.head? = some j.item ∧ j.formOfKind = true ∧ (j.evicted = true → j.form = .forced) := by
  cases flying : s.judgeInFlight with
  | some j =>
    obtain ⟨_, _, _, _, _, held⟩ := State.judgeInFlight_some flying
    simp [latchAtHead, held, and_assoc]
  | none =>
    unfold latchAtHead
    split
    · exact absurd ‹_› (State.judgeInFlight_none flying _ _ _ _ _ _)
    · simp

/-! ### Forced closes pending -/

/-- A record of a key has a forced close pending. -/
def pendingAt (key : Nat) (chords : List ChordRecord) : Bool := chords.any fun r => r.key == key && r.forcedPending

theorem pendingAt_iff {key : Nat} {chords : List ChordRecord} :
    pendingAt key chords = true ↔ ∃ r ∈ chords, r.key = key ∧ r.forcedPending = true := by
  simp [pendingAt]

theorem TableOk.pendingAt_of_mem {chords : List ChordRecord} (h : TableOk chords) {r : ChordRecord} (mem : r ∈ chords) :
    pendingAt r.key chords = r.forcedPending := by
  rw [Bool.eq_iff_iff, pendingAt_iff]
  constructor
  · rintro ⟨r', mem', key, pending⟩
    rwa [← h.unique mem' mem key]
  · exact fun pending => ⟨r, mem, rfl, pending⟩

theorem pendingAt_of_absent {key : Nat} {chords : List ChordRecord} (h : ∀ r ∈ chords, r.key ≠ key) :
    pendingAt key chords = false := by
  rw [← Bool.not_eq_true, pendingAt_iff]
  rintro ⟨r, mem, here, -⟩
  exact h r mem here

theorem pendingAt_remove (key d : Nat) (chords : List ChordRecord) :
    pendingAt d (chords.filter fun r => r.key != key) = if d = key then false else pendingAt d chords := by
  split
  · subst d
    exact pendingAt_of_absent fun r mem => by simpa using (List.mem_filter.mp mem).2
  · rename_i other
    rw [Bool.eq_iff_iff, pendingAt_iff, pendingAt_iff]
    constructor
    · rintro ⟨r, mem, here, pending⟩
      exact ⟨r, (List.mem_filter.mp mem).1, here, pending⟩
    · rintro ⟨r, mem, here, pending⟩
      exact ⟨r, List.mem_filter.mpr ⟨mem, by simpa [here] using other⟩, here, pending⟩

theorem pendingAt_add {r : ChordRecord} (fresh : r.forcedPending = false) (d : Nat) (chords : List ChordRecord) :
    pendingAt d (chords ++ [r]) = pendingAt d chords := by
  simp [pendingAt, fresh]

theorem pendingAt_update (key d : Nat) {f : ChordRecord → ChordRecord}
    (keeps : ∀ r, (f r).key = r.key ∧ (f r).forcedPending = r.forcedPending) (chords : List ChordRecord) :
    pendingAt d (chords.map fun r => if r.key = key then f r else r) = pendingAt d chords := by
  simp only [pendingAt, List.any_map]
  congr 1
  funext r
  simp only [Function.comp]
  split
  · rw [(keeps r).1, (keeps r).2]
  · rfl

theorem pendingAt_mark {key : Nat} {chords : List ChordRecord} {r : ChordRecord} (mem : r ∈ chords) (here : r.key = key)
    (d : Nat) : pendingAt d (chords.map fun r => if r.key = key then { r with forcedPending := true } else r) =
      if d = key then true else pendingAt d chords := by
  rw [Bool.eq_iff_iff, pendingAt_iff]
  split
  · subst d
    simp only [iff_true]
    exact ⟨{ r with forcedPending := true }, List.mem_map.mpr ⟨r, mem, by simp [here]⟩, here, rfl⟩
  · rename_i other
    rw [pendingAt_iff]
    constructor
    · rintro ⟨x, inList, at_d, pending⟩
      obtain ⟨y, memY, rfl⟩ := List.mem_map.mp inList
      by_cases same : y.key = key
      · simp only [same, ↓reduceIte] at at_d
        exact absurd at_d.symm other
      · simp only [same, ↓reduceIte] at at_d pending
        exact ⟨y, memY, at_d, pending⟩
    · rintro ⟨y, memY, at_d, pending⟩
      have same : ¬y.key = key := fun same => other (at_d.symm.trans same)
      exact ⟨y, List.mem_map.mpr ⟨y, memY, by simp [same]⟩, at_d, pending⟩

theorem forcedItems_eq (key : Nat) (s : State) :
    forcedItems key s = oneIf (pendingAt key s.chords) + oneIf (evictedKey s == some key) := rfl

/-! ### The report list against what it owes -/

/-- The forced closes a list holds for an item: none for an item of another kind. -/
def State.forcedOwed (s : State) (i : ReportItem) : Nat := if i.kind = .forced then forcedItems i.due s else 0

/-- The report list holds the items of `owed` and the forced closes pending or evicted in flight, in an order of R69, and the
latched JUDGE frame is of its first item (R96, R97). -/
structure State.ListOk (s : State) (owed : ReportItem → Nat) : Prop where
  table : TableOk s.chords
  unforced : ∀ due, owed ⟨.forced, due⟩ = 0
  counts : ∀ i, s.reports.count i = owed i + s.forcedOwed i
  order : s.reports.Pairwise fun a b => itemBefore a b = true
  source : ∀ f, s.line.inFlight = some f → f.judge.isSome = true → f.source = .report
  head : ∀ j, s.judgeInFlight = some j → s.reports.head? = some j.item
  form : ∀ j, s.judgeInFlight = some j → j.formOfKind = true
  condemned : ∀ j, s.judgeInFlight = some j → j.evicted = true → j.form = .forced
  unsent : ∀ j, s.judgeInFlight = some j → j.evicted = true → ∀ r ∈ s.chords, r.key = j.item.due → r.ownSent = false
  slots : ∀ j, s.judgeInFlight = some j → j.evicted = true →
    s.chords.length < chordCapacity ∨ ∃ r ∈ s.chords, r.ownSent = false

variable {s t : State} {owed owed' : ReportItem → Nat}

theorem State.forcedOwed_congr (chords : t.chords = s.chords) (flying : t.judgeInFlight = s.judgeInFlight) (i : ReportItem) :
    t.forcedOwed i = s.forcedOwed i := by
  simp only [forcedOwed, forcedItems_eq, evictedKey_eq, chords, flying]

theorem State.ListOk.of_same (h : s.ListOk owed) (chords : t.chords = s.chords) (reports : t.reports = s.reports)
    (line : t.line.inFlight = s.line.inFlight) : t.ListOk owed := by
  have flying : t.judgeInFlight = s.judgeInFlight := by simp [judgeInFlight, line]
  refine ⟨chords ▸ h.table, h.unforced, fun i => ?_, reports ▸ h.order, line ▸ h.source, ?_, ?_, ?_, ?_, ?_⟩
  · rw [reports, h.counts, State.forcedOwed_congr chords flying]
  · rw [flying, reports]; exact h.head
  · rw [flying]; exact h.form
  · rw [flying]; exact h.condemned
  · rw [flying, chords]; exact h.unsent
  · rw [flying, chords]; exact h.slots

theorem State.ListOk.of_owed (h : s.ListOk owed) (same : ∀ i, owed i = owed' i) : s.ListOk owed' :=
  { h with counts := fun i => by rw [h.counts, same], unforced := fun due => same _ ▸ h.unforced due }

/-- With no JUDGE frame latched in flight only the list and the table count. -/
theorem State.ListOk.of_idle (idle : s.judgeInFlight = none) (table : TableOk s.chords)
    (unforced : ∀ due, owed ⟨.forced, due⟩ = 0)
    (counts : ∀ i, s.reports.count i = owed i + if i.kind = .forced then oneIf (pendingAt i.due s.chords) else 0)
    (order : s.reports.Pairwise fun a b => itemBefore a b = true) : s.ListOk owed := by
  refine ⟨table, unforced, fun i => ?_, order, fun f flying latched => ?_, by simp [idle], by simp [idle], by simp [idle],
    by simp [idle], by simp [idle]⟩
  swap
  · simp [judgeInFlight, flying] at idle
    simp [idle] at latched
  rw [counts]
  simp [forcedOwed, forcedItems_eq, evictedKey_eq, idle, oneIf]

theorem State.ListOk.counts_idle (h : s.ListOk owed) (idle : s.judgeInFlight = none) (i : ReportItem) :
    s.reports.count i = owed i + if i.kind = .forced then oneIf (pendingAt i.due s.chords) else 0 := by
  rw [h.counts]
  simp [forcedOwed, forcedItems_eq, evictedKey_eq, idle, oneIf]

theorem State.ListOk.addItem (h : s.ListOk owed) {kind : ItemKind} (real : kind ≠ .forced) (due : Nat)
    (first : kind = .head → owed ⟨.tail, due⟩ = 0) :
    (addItem kind due s).ListOk fun i => owed i + if i.due = due then oneIf (i.kind = kind) else 0 := by
  have reports : (Machine.addItem kind due s).reports = s.reports ++ [⟨kind, due⟩] := rfl
  refine ⟨h.table, fun d => ?_, fun i => ?_, ?_, h.source, fun j flying => ?_, h.form, h.condemned, h.unsent,
    h.slots⟩
  · simp [h.unforced, oneIf, real.symm]
  · rw [reports, List.count_append, h.counts, List.count_singleton]
    change _ = owed i + (if i.due = due then oneIf (i.kind = kind) else 0) + s.forcedOwed i
    obtain ⟨k, d⟩ := i
    by_cases here : d = due
    · subst here
      by_cases same : k = kind
      · simp [same, oneIf, Nat.add_right_comm]
      · simp [same, Ne.symm same, oneIf]
    · simp [here, Ne.symm here]
  · rw [reports, List.pairwise_append]
    refine ⟨h.order, by simp, fun a mem b single => ?_⟩
    rw [List.mem_singleton.mp single]
    rw [← Bool.not_eq_false]
    intro behind
    simp only [itemBefore, Bool.not_eq_false', Bool.and_eq_true, beq_iff_eq] at behind
    obtain ⟨⟨tail, head⟩, here⟩ := behind
    have := h.counts a
    rw [show a = ⟨.tail, due⟩ by cases a; simp_all, first head] at this
    simp only [forcedOwed] at this
    exact absurd mem (by rw [show a = ⟨.tail, due⟩ by cases a; simp_all]; exact List.count_eq_zero.mp (by simpa using this))
  · rw [reports, List.head?_append, h.head j flying]
    rfl

end Sys2Proof.Machine

namespace Sys2Proof.Machine

/-! ### The Chord Table and the report list, operation by operation -/

variable {s t : State} {owed owed' : ReportItem → Nat}

theorem State.ListOk.updateRecord (h : s.ListOk owed) (key : Nat) {f : ChordRecord → ChordRecord}
    (keeps : ∀ r, (f r).key = r.key ∧ (f r).forcedPending = r.forcedPending ∧ (f r).ownSent = r.ownSent)
    (table : TableOk (updateRecord key f s).chords) : (updateRecord key f s).ListOk owed := by
  refine ⟨table, h.unforced, fun i => ?_, h.order, h.source, h.head, h.form, h.condemned, fun j flying evicted r mem here => ?_,
    fun j flying evicted => ?_⟩
  · have pending (d : Nat) : pendingAt d (Machine.updateRecord key f s).chords = pendingAt d s.chords :=
      pendingAt_update key d (fun r => ⟨(keeps r).1, (keeps r).2.1⟩) _
    have counted := h.counts i
    simp only [State.forcedOwed, forcedItems_eq, pending] at counted ⊢
    exact counted
  · obtain ⟨x, inList, rfl⟩ := List.mem_map.mp mem
    have := h.unsent j flying evicted x inList
    split at here
    · rename_i same
      simpa [same, (keeps x).2.2] using this ((keeps x).1.symm.trans here)
    · rename_i other
      simpa [other] using this here
  · rcases h.slots j flying evicted with room | ⟨x, mem, unsent⟩
    · exact .inl (by simpa [updateRecord_chords] using room)
    · refine .inr ⟨_, List.mem_map.mpr ⟨x, mem, rfl⟩, ?_⟩
      split
      · rw [(keeps x).2.2, unsent]
      · exact unsent

/-- A record without own report sent joins the table. -/
theorem State.ListOk.addRecord (h : s.ListOk owed) {r : ChordRecord} (fresh : r.ownSent = false)
    (table : TableOk (addRecord r s).chords) : (addRecord r s).ListOk owed := by
  have pending : r.forcedPending = false := by
    rw [← Bool.not_eq_true]
    intro pending
    have := (r.sound_iff.mp (table.records r (by simp [addRecord_chords]))).2.2 pending
    simp [fresh] at this
  refine ⟨table, h.unforced, fun i => ?_, h.order, h.source, h.head, h.form, h.condemned, fun j flying evicted x mem here => ?_,
    fun j flying evicted => .inr ⟨r, by simp [addRecord_chords], fresh⟩⟩
  · have same (d : Nat) : pendingAt d (Machine.addRecord r s).chords = pendingAt d s.chords := pendingAt_add pending d _
    have counted := h.counts i
    simp only [State.forcedOwed, forcedItems_eq, same] at counted ⊢
    exact counted
  · rcases List.mem_append.mp mem with mem | mem
    · exact h.unsent j flying evicted x mem here
    · rw [List.mem_singleton.mp mem]
      exact fresh

/-- The slots suffice when a record has gone. -/
theorem TableOk.room_of_removed {chords : List ChordRecord} (h : TableOk chords) {r : ChordRecord} (mem : r ∈ chords) {key : Nat}
    (here : r.key = key) : (chords.filter fun x => x.key != key).length < chordCapacity := by
  have := h.room
  have := List.length_filter_lt_length_iff_exists (p := fun x : ChordRecord => x.key != key) |>.mpr ⟨r, mem, by simp [here]⟩
  omega

/-- A record with no forced close pending goes. -/
theorem State.ListOk.removeRecord (h : s.ListOk owed) {r : ChordRecord} (mem : r ∈ s.chords) (none : r.forcedPending = false) :
    (removeRecord r.key s).ListOk owed := by
  have table : TableOk (Machine.removeRecord r.key s).chords := h.table.sublist List.filter_sublist
  refine ⟨table, h.unforced, fun i => ?_, h.order, h.source, h.head, h.form, h.condemned, fun j flying evicted x inList here => ?_,
    fun j flying evicted => .inl (h.table.room_of_removed mem rfl)⟩
  · have same (d : Nat) : pendingAt d (Machine.removeRecord r.key s).chords = pendingAt d s.chords := by
      rw [removeRecord_chords, pendingAt_remove]
      split
      · subst d
        rw [h.table.pendingAt_of_mem mem, none]
      · rfl
    have counted := h.counts i
    simp only [State.forcedOwed, forcedItems_eq, same] at counted ⊢
    exact counted
  · exact h.unsent j flying evicted x (List.mem_filter.mp inList).1 here

theorem removeForced_reports (key : Nat) (s : State) :
    (removeForced key s).reports = s.reports.filter fun i => i != ⟨.forced, key⟩ := by
  simp only [removeForced, State.setReports_reports]
  congr 1
  funext i
  rw [Bool.eq_iff_iff]
  obtain ⟨kind, due⟩ := i
  simp [Decidable.imp_iff_not_or]

theorem JudgeLatch.form_iff_of_kind {j : JudgeLatch} (h : j.formOfKind = true) : j.item.kind = .forced ↔ j.form = .forced := by
  unfold formOfKind at h
  split at h <;> simp_all

/-- A record goes with its forced close, which is not in flight. -/
theorem State.ListOk.removeForced (h : s.ListOk owed) {r : ChordRecord} (mem : r ∈ s.chords) (pending : r.forcedPending = true)
    (grounded : forcedInFlight r.key s = false) : (removeForced r.key (Machine.removeRecord r.key s)).ListOk owed := by
  have chords : (Machine.removeForced r.key (Machine.removeRecord r.key s)).chords = s.chords.filter fun x => x.key != r.key := by
    simp [removeRecord_chords]
  have reports : (Machine.removeForced r.key (Machine.removeRecord r.key s)).reports =
      s.reports.filter fun i => i != ⟨.forced, r.key⟩ := by
    rw [removeForced_reports]; rfl
  have sent : r.ownSent = true := (r.sound_iff.mp (h.table.records r mem)).2.2 pending
  have other (j : JudgeLatch) (flying : s.judgeInFlight = some j) : j.item ≠ ⟨.forced, r.key⟩ := by
    intro item
    have forced := (JudgeLatch.form_iff_of_kind (h.form j flying)).mp (by rw [item])
    simp [forcedInFlight_eq, flying, forced, item] at grounded
  refine ⟨by rw [chords]; exact h.table.sublist List.filter_sublist, h.unforced, fun i => ?_, ?_, h.source, fun j flying => ?_, h.form,
    h.condemned, fun j flying evicted x inList => ?_, fun j flying evicted => .inl ?_⟩
  · have counted := h.counts i
    have key : evictedKey (Machine.removeForced r.key (Machine.removeRecord r.key s)) = evictedKey s := rfl
    simp only [State.forcedOwed, forcedItems_eq] at counted
    rw [reports]
    simp only [State.forcedOwed, forcedItems_eq, chords, pendingAt_remove, key]
    by_cases here : i = ⟨.forced, r.key⟩
    · subst here
      have unevicted : (evictedKey s == some r.key) = false := by
        rw [beq_eq_false_iff_ne, evictedKey_eq]
        intro evicted
        obtain ⟨j, flying, due⟩ := Option.bind_eq_some_iff.mp evicted
        split at due
        · have := h.unsent j flying ‹_› r mem (Option.some.inj due).symm
          simp [sent] at this
        · cases due
      rw [List.count_eq_zero.mpr (by simp)]
      simp [h.unforced, unevicted, oneIf]
    · rw [List.count_filter (by simpa using here), counted]
      obtain ⟨kind, due⟩ := i
      by_cases forced : kind = .forced
      · have : due ≠ r.key := fun same => here (by rw [forced, same])
        simp [forced, this]
      · simp [forced]
  · rw [reports]
    exact h.order.sublist List.filter_sublist
  · have first := h.head j flying
    rw [reports]
    cases list : s.reports with
    | nil => simp [list] at first
    | cons x xs =>
      rw [list] at first
      cases first
      rw [List.filter_cons_of_pos (by simpa using other j flying)]
      rfl
  · rw [chords] at inList
    exact h.unsent j flying evicted x (List.mem_filter.mp inList).1
  · rw [chords]
    exact h.table.room_of_removed mem rfl

/-- A record goes while the FORCED frame of its forced close is in flight, which is then marked (R79, R97). -/
theorem State.ListOk.condemnRecord (h : s.ListOk owed) {r : ChordRecord} (mem : r ∈ s.chords) (pending : r.forcedPending = true)
    (inFlight : forcedInFlight r.key s = true) : (condemnInFlight (Machine.removeRecord r.key s)).ListOk owed := by
  have chords : (condemnInFlight (Machine.removeRecord r.key s)).chords = s.chords.filter fun x => x.key != r.key := by
    simp [removeRecord_chords]
  have sent : r.ownSent = true := (r.sound_iff.mp (h.table.records r mem)).2.2 pending
  rw [forcedInFlight_eq] at inFlight
  obtain ⟨j, flying, forced⟩ := Option.any_eq_true _ _ |>.mp inFlight
  simp only [Bool.and_eq_true, beq_iff_eq] at forced
  obtain ⟨form, due⟩ := forced
  have fresh : j.evicted = false := by
    rw [← Bool.not_eq_true]
    intro evicted
    have := h.unsent j flying evicted r mem due.symm
    simp [sent] at this
  have marked : (condemnInFlight (Machine.removeRecord r.key s)).judgeInFlight = some { j with evicted := true } := by
    rw [condemnInFlight_judge]
    exact congrArg _ flying
  refine ⟨by rw [chords]; exact h.table.sublist List.filter_sublist, h.unforced, fun i => ?_, by simpa using h.order,
    fun f flies latched => ?_, fun k flies => ?_, fun k flies => ?_, fun k flies _ => ?_, fun k flies _ x inList here => ?_, fun _ _ _ => .inl ?_⟩
  · have counted := h.counts i
    simp only [State.forcedOwed, forcedItems_eq, evictedKey_eq, flying] at counted
    simp only [State.forcedOwed, forcedItems_eq, evictedKey_eq, marked, chords, pendingAt_remove, condemnInFlight_frame,
      removeRecord_frame]
    rw [counted]
    obtain ⟨kind, d⟩ := i
    by_cases forced : kind = .forced
    · by_cases here : d = r.key
      · simp [forced, here, h.table.pendingAt_of_mem mem, pending, due, fresh, oneIf]
      · simp [forced, here, due, fresh, oneIf, Ne.symm here]
    · simp [forced]
  · obtain ⟨g, held, rfl⟩ := Option.map_eq_some_iff.mp
      (show s.line.inFlight.map (fun f => { f with latched := f.latched.map markEvicted }) = some f from flies)
    exact h.source g held (by simpa [InFlight.judge_markEvicted] using latched)
  · rw [marked] at flies
    cases flies
    simpa using h.head j flying
  · rw [marked] at flies
    cases flies
    simpa [JudgeLatch.formOfKind] using h.form j flying
  · rw [marked] at flies
    cases flies
    exact form
  · rw [marked] at flies
    cases flies
    rw [chords] at inList
    exact absurd (here.trans due) (by simpa using (List.mem_filter.mp inList).2)
  · rw [chords]
    exact h.table.room_of_removed mem rfl

theorem State.ListOk.evict (h : s.ListOk owed) (key : Nat) : (evict key s).ListOk owed := by
  unfold Machine.evict
  split
  · exact h
  · rename_i r found
    obtain ⟨mem, rfl⟩ := findRecord_some found
    split
    · split
      · exact h.condemnRecord mem ‹_› ‹_›
      · rename_i grounded
        exact h.removeForced mem ‹_› (Bool.eq_false_iff.mpr grounded)
    · rename_i none
      exact h.removeRecord mem (Bool.eq_false_iff.mpr none)

theorem State.ListOk.tellChord (h : s.ListOk owed) (e : NoteEntry) (g : Grade) : (tellChord e g s).ListOk owed := by
  have table := tellChord_table e g h.table
  unfold Machine.tellChord at table ⊢
  split
  · exact h
  · rename_i told
    rw [if_neg told] at table
    split
    · rename_i held
      rw [if_pos held] at table
      exact h.updateRecord _ (fun _ => ⟨rfl, rfl, rfl⟩) table
    · rename_i absent
      rw [if_neg absent] at table
      refine State.ListOk.addRecord ?_ rfl table
      rcases makeRoom_cases s with ⟨-, same⟩ | ⟨k, r, -, -, same⟩ <;> rw [same]
      · exact h
      · exact h.evict k

/-- The forced close of a record falls due (R85). -/
theorem State.ListOk.takeForced (h : s.ListOk owed) (key : Nat) : (takeForced key s).ListOk owed := by
  have table := takeForced_table key h.table
  unfold Machine.takeForced at table ⊢
  split
  · rename_i r found
    obtain ⟨mem, rfl⟩ := findRecord_some found
    split
    · rename_i due
      simp only [found, if_pos due] at table
      simp only [Bool.and_eq_true, Bool.not_eq_true'] at due
      obtain ⟨sent, fresh⟩ := due
      have other (j : JudgeLatch) (flying : s.judgeInFlight = some j) (evicted : j.evicted = true) : j.item.due ≠ r.key := by
        intro same
        have := h.unsent j flying evicted r mem same.symm
        simp [sent] at this
      have unevicted : evictedKey s ≠ some r.key := by
        rw [evictedKey_eq]
        intro evicted
        obtain ⟨j, flying, due⟩ := Option.bind_eq_some_iff.mp evicted
        split at due
        · exact other j flying ‹_› (Option.some.inj due)
        · cases due
      refine ⟨table, h.unforced, fun i => ?_, ?_, h.source, fun j flying => ?_, h.form, h.condemned,
        fun j flying evicted x inList here => ?_, fun j flying evicted => ?_⟩
      · have counted := h.counts i
        have key : evictedKey (Machine.addItem .forced r.key (Machine.updateRecord r.key (fun r => { r with forcedPending := true }) s)) =
            evictedKey s := rfl
        have reports : (Machine.addItem .forced r.key (Machine.updateRecord r.key (fun r => { r with forcedPending := true }) s)).reports =
            s.reports ++ [⟨.forced, r.key⟩] := rfl
        rw [reports, List.count_append, counted, List.count_singleton]
        simp only [State.forcedOwed, forcedItems_eq, key, addItem_frame, updateRecord_chords, pendingAt_mark mem rfl]
        obtain ⟨kind, d⟩ := i
        by_cases forced : kind = .forced
        · by_cases here : d = r.key
          · simp [forced, here, h.table.pendingAt_of_mem mem, fresh, oneIf, unevicted]
          · simp [forced, here, Ne.symm here]
        · simp [forced, Ne.symm forced]
      · refine List.pairwise_append.mpr ⟨h.order, by simp, fun a _ b single => ?_⟩
        rw [List.mem_singleton.mp single]
        simp [itemBefore]
      · have first := h.head j flying
        change (s.reports ++ [_]).head? = _
        rw [List.head?_append, first]
        rfl
      · obtain ⟨y, inTable, rfl⟩ := List.mem_map.mp inList
        by_cases same : y.key = r.key
        · simp only [same, ↓reduceIte] at here
          exact absurd here.symm (other j flying evicted)
        · simpa [same] using h.unsent j flying evicted y inTable (by simpa [same] using here)
      · rcases h.slots j flying evicted with room | ⟨y, inTable, unsent⟩
        · exact .inl (by simpa [updateRecord_chords] using room)
        · refine .inr ⟨_, List.mem_map.mpr ⟨y, inTable, rfl⟩, ?_⟩
          split <;> exact unsent
    · exact h
  · exact h

end Sys2Proof.Machine

namespace Sys2Proof.Machine

/-! ### Entries by their due -/

theorem due_unique {l : List NoteEntry} (order : l.Pairwise fun a b => noteBefore a b = true) {x y : NoteEntry} (hx : x ∈ l)
    (hy : y ∈ l) (due : x.due = y.due) : x = y := by
  by_contra other
  have dues : (l.map NoteEntry.due).Nodup := List.pairwise_map.mpr <| order.imp fun before => by
    have := ((noteBefore_iff _ _).mp before).1
    omega
  exact other (List.inj_on_of_nodup_map dues hx hy due)

theorem findEntry_of_mem {s : State} (order : s.queue.entries.Pairwise fun a b => noteBefore a b = true) {e : NoteEntry}
    (mem : e ∈ s.queue.entries) : findEntry e.due s = some e := by
  cases found : findEntry e.due s with
  | none => simpa using List.find?_eq_none.mp found e mem
  | some x =>
    obtain ⟨inList, due⟩ := findEntry_some found
    rw [due_unique order inList mem due]

theorem findEntry_retouch {s t : State} {due : Nat} {f : NoteEntry → NoteEntry} (keeps : ∀ e, (f e).due = e.due)
    (entries : t.queue.entries = retouch due f s.queue.entries) (d : Nat) :
    findEntry d t = if d = due then (findEntry d s).map f else findEntry d s := by
  have same : ((fun e : NoteEntry => e.due == d) ∘ fun e => if e.due = due then f e else e) = fun e => e.due == d := by
    funext e
    simp only [Function.comp]
    split
    · rw [keeps]
    · rfl
  rw [findEntry, entries, retouch, List.find?_map, same, ← findEntry]
  cases found : findEntry d s with
  | none => simp
  | some e =>
    have here := (findEntry_some found).2
    subst here
    split <;> simp_all

theorem findEntry_filter {s t : State} {due : Nat} (entries : t.queue.entries = s.queue.entries.filter fun e => e.due != due)
    (d : Nat) : findEntry d t = if d = due then none else findEntry d s := by
  rw [findEntry, entries]
  split
  · subst d
    simp
  · rename_i other
    rw [findEntry, List.find?_filter]
    congr 1
    funext e
    rw [Bool.eq_iff_iff]
    simp only [bne_iff_ne, beq_iff_eq, decide_eq_true_eq]
    constructor
    · exact fun h => h.2
    · rintro rfl
      exact ⟨other, rfl⟩

theorem findEntry_insert {s t : State} {e : NoteEntry} (entries : t.queue.entries = insertEntry e s.queue.entries)
    (d : Nat) (other : d ≠ e.due) : findEntry d t = findEntry d s := by
  have inserted (l : List NoteEntry) : (insertEntry e l).find? (fun x => x.due == d) = l.find? fun x => x.due == d := by
    induction l with
    | nil => simp [insertEntry, Ne.symm other]
    | cons x xs ih =>
      unfold insertEntry
      split
      · rw [List.find?_cons_of_neg (by simpa using Ne.symm other)]
      · rw [List.find?_cons, List.find?_cons, ih]
  rw [findEntry, entries, inserted, ← findEntry]

/-! ### The items an entry owes -/

/-- The items an entry has in the list: a TAP item or a TAIL item when JUDGED, a HEAD item while its judged head is unsent
(R96). -/
def NoteEntry.owes (e : NoteEntry) : ItemKind → Bool
  | .tap => e.kind == .tap && e.state == .judged
  | .head => e.kind != .tap && e.head.isSome && !e.headSent
  | .tail => e.kind != .tap && e.state == .judged
  | .forced => false

/-- The items the entries owe. -/
def State.entryOwed (s : State) (i : ReportItem) : Nat := oneIf ((findEntry i.due s).any fun e => e.owes i.kind)

theorem State.entryOwed_congr {s t : State} (entries : t.queue.entries = s.queue.entries) (i : ReportItem) :
    t.entryOwed i = s.entryOwed i := by
  simp [entryOwed, findEntry, entries]

theorem State.entryOwed_forced (s : State) (due : Nat) : s.entryOwed ⟨.forced, due⟩ = 0 := by
  cases found : findEntry due s <;> simp [entryOwed, found, NoteEntry.owes, oneIf]

/-- What the entries owe when one of them has changed. -/
theorem State.entryOwed_retouch {s t : State} {e : NoteEntry}
    (found : findEntry e.due s = some e) {f : NoteEntry → NoteEntry}
    (keeps : ∀ x, (f x).due = x.due) (entries : t.queue.entries = retouch e.due f s.queue.entries) {added : ItemKind → Nat}
    (owes : ∀ k, oneIf ((f e).owes k) = oneIf (e.owes k) + added k) (i : ReportItem) :
    t.entryOwed i = s.entryOwed i + if i.due = e.due then added i.kind else 0 := by
  simp only [entryOwed, findEntry_retouch keeps entries]
  split
  · rename_i here
    rw [here, found]
    simpa using owes i.kind
  · simp

theorem NoteEntry.sound_of_waiting {e : NoteEntry} (h : e.sound = true) (waits : e.state.isWaiting = true) :
    e.head = none ∧ e.tail = none ∧ e.headSent = false := by
  unfold sound at h
  split at h <;> simp_all [EntryState.isWaiting, and_assoc]

theorem NoteEntry.sound_of_inHold {e : NoteEntry} (h : e.sound = true) (held : e.inHold = true) :
    (∃ length, e.kind = .hold length) ∧ e.head.isSome = true ∧ e.tail = none := by
  unfold sound at h
  split at h <;> simp_all [NoteEntry.inHold, EntryState.isHolding, EntryState.isSlipping]

theorem EntryState.eq_waiting {st : EntryState} (h : st.isWaiting = true) : st = .waiting := by
  cases st <;> simp_all [isWaiting]

theorem NoteEntry.not_judged_of_inHold {e : NoteEntry} (h : e.inHold = true) : e.state ≠ .judged := by
  intro judged
  simp [inHold, judged, EntryState.isHolding, EntryState.isSlipping] at h

/-- The entries hold the results their kinds and states call for, and the report list what they and the forced closes owe. -/
structure State.SongOk (s : State) : Prop where
  entries : ∀ e ∈ s.queue.entries, e.sound = true
  new : ∀ e, s.queue.pendingInsertion = some e → e.sound = true
  list : s.ListOk s.entryOwed

theorem State.SongOk.of_same {s t : State} (h : s.SongOk) (entries : t.queue.entries = s.queue.entries)
    (new : t.queue.pendingInsertion = none ∨ t.queue.pendingInsertion = s.queue.pendingInsertion) (chords : t.chords = s.chords)
    (reports : t.reports = s.reports) (line : t.line.inFlight = s.line.inFlight) : t.SongOk := by
  refine ⟨entries ▸ h.entries, fun e held => ?_, ?_⟩
  · rcases new with none | same
    · simp [none] at held
    · exact h.new e (same ▸ held)
  · exact (h.list.of_same chords reports line).of_owed fun i => (State.entryOwed_congr entries i).symm

/-- Entries stay sound when the one of a due is changed soundly. -/
theorem sound_retouch {l : List NoteEntry} (order : l.Pairwise fun a b => noteBefore a b = true) {e : NoteEntry} (mem : e ∈ l)
    {f : NoteEntry → NoteEntry} (sound : ∀ x ∈ l, x.sound = true) (changed : (f e).sound = true) :
    ∀ x ∈ retouch e.due f l, x.sound = true := by
  intro x inList
  rcases mem_retouch.mp inList with ⟨y, memY, due, rfl⟩ | ⟨memX, -⟩
  · rwa [due_unique order memY mem due]
  · exact sound x memX

/-- A move that changes one entry soundly, and adds to the report list what the entry owes beyond what it owed. -/
theorem State.SongOk.of_retouch {s t : State} (queue : s.QueueOk) (h : s.SongOk) {e : NoteEntry} (mem : e ∈ s.queue.entries)
    (f : NoteEntry → NoteEntry) (keeps : ∀ x, (f x).due = x.due)
    (becomes : t.queue = { s.queue with entries := retouch e.due f s.queue.entries }) (sound : (f e).sound = true)
    (added : ItemKind → Nat) (owes : ∀ k, oneIf ((f e).owes k) = oneIf (e.owes k) + added k)
    (list : t.ListOk fun i => s.entryOwed i + if i.due = e.due then added i.kind else 0) : t.SongOk := by
  refine ⟨?_, by rw [becomes]; exact h.new, list.of_owed fun i => ?_⟩
  · rw [becomes]
    exact sound_retouch queue.order mem h.entries sound
  · exact (State.entryOwed_retouch (findEntry_of_mem queue.order mem) keeps (by rw [becomes]) owes i).symm

/-- Every move of judging keeps entries and report list sound. -/
theorem Judging.keeps_song {s t : State} (move : Judging s t) (queue : s.QueueOk) (h : s.SongOk) : t.SongOk := by
  have touched (due : Nat) (f : NoteEntry → NoteEntry) : (updateEntry due f s).ListOk s.entryOwed := h.list.of_same rfl rfl rfl
  cases move with
  | tap e r mem kind waits =>
    obtain ⟨head, tail, unsent⟩ := NoteEntry.sound_of_waiting (h.entries e mem) waits
    have listed := ((touched e.due fun x => { x with state := .judged, head := some r }).tellChord e r.grade).addItem
      (kind := .tap) nofun e.due nofun
    refine h.of_retouch queue mem (fun x => { x with state := .judged, head := some r }) (fun _ => rfl) (resolveTap_queue e r s)
      (by simp [NoteEntry.sound, kind, tail, unsent]) (fun k => oneIf (k = .tap)) (fun k => ?_)
      (listed.of_same (t := resolveTap e r s) (by simp [resolveTap]) (by simp [resolveTap]) (by simp [resolveTap]))
    cases k <;> simp [NoteEntry.owes, kind, EntryState.eq_waiting waits, oneIf]
  | head e r length mem kind waits =>
    obtain ⟨head, tail, unsent⟩ := NoteEntry.sound_of_waiting (h.entries e mem) waits
    have noTail : s.entryOwed ⟨.tail, e.due⟩ = 0 := by
      simp [State.entryOwed, findEntry_of_mem queue.order mem, NoteEntry.owes, EntryState.eq_waiting waits, oneIf]
    have listed := ((touched e.due fun x => { x with state := .holding, head := some r, headSent := false }).tellChord e
      r.grade).addItem (kind := .head) nofun e.due fun _ => noTail
    refine h.of_retouch queue mem (fun x => { x with state := .holding, head := some r, headSent := false }) (fun _ => rfl)
      (startHold_queue e r s) (by simp [NoteEntry.sound, kind, tail]) (fun k => oneIf (k = .head)) (fun k => ?_)
      (listed.of_same (t := startHold e r s) (by simp [startHold]) (by simp [startHold]) (by simp [startHold]))
    cases k <;> simp [NoteEntry.owes, kind, EntryState.eq_waiting waits, head, oneIf]
  | lapse e length mem kind waits =>
    obtain ⟨head, tail, unsent⟩ := NoteEntry.sound_of_waiting (h.entries e mem) waits
    have noTail : s.entryOwed ⟨.tail, e.due⟩ = 0 := by
      simp [State.entryOwed, findEntry_of_mem queue.order mem, NoteEntry.owes, EntryState.eq_waiting waits, oneIf]
    have told := (touched e.due fun x =>
      { x with state := .judged, head := some .lapse, headSent := false, tail := some .ng }).tellChord e .miss
    have listed := (told.addItem (kind := .head) nofun e.due fun _ => noTail).addItem (kind := .tail) nofun e.due nofun
    refine h.of_retouch queue mem (fun x => { x with state := .judged, head := some .lapse, headSent := false, tail := some .ng })
      (fun _ => rfl) (lapseHold_queue e s) (by simp [NoteEntry.sound, kind]) (fun k => oneIf (k = .head) + oneIf (k = .tail))
      (fun k => ?_) ((listed.of_same (t := lapseHold e s) (by simp [lapseHold]) (by simp [lapseHold])
        (by simp [lapseHold])).of_owed fun i => ?_)
    · cases k <;> simp [NoteEntry.owes, kind, EntryState.eq_waiting waits, head, oneIf]
    · split <;> simp [add_assoc]
  | tail e r mem held =>
    obtain ⟨⟨length, kind⟩, head, tail⟩ := NoteEntry.sound_of_inHold (h.entries e mem) held
    have listed := (touched e.due fun x => { x with state := .judged, tail := some r }).addItem (kind := .tail) nofun e.due nofun
    refine h.of_retouch queue mem (fun x => { x with state := .judged, tail := some r }) (fun _ => rfl)
      (resolveTail_queue e.due r s) (by simp [NoteEntry.sound, kind, head]) (fun k => oneIf (k = .tail)) (fun k => ?_)
      (listed.of_same (t := resolveTail e.due r s) (by simp [resolveTail]) (by simp [resolveTail]) (by simp [resolveTail]))
    cases k <;> simp [NoteEntry.owes, kind, NoteEntry.not_judged_of_inHold held, oneIf]
  | grip e mem slips =>
    have held := e.inHold_iff.mpr (.inr slips)
    obtain ⟨⟨length, kind⟩, head, tail⟩ := NoteEntry.sound_of_inHold (h.entries e mem) held
    refine h.of_retouch queue mem (fun x => { x with state := .holding }) (fun _ => rfl) (reGrip_queue e s)
      (by simp [NoteEntry.sound, kind, head, tail]) (fun _ => 0) (fun k => ?_)
      ((touched e.due _).of_owed fun i => by simp)
    cases k <;> simp [NoteEntry.owes, kind, NoteEntry.not_judged_of_inHold held, oneIf]
  | slip e time mem holds =>
    have held := e.inHold_iff.mpr (.inl holds)
    obtain ⟨⟨length, kind⟩, head, tail⟩ := NoteEntry.sound_of_inHold (h.entries e mem) held
    refine h.of_retouch queue mem (fun x => { x with state := .slipping time }) (fun _ => rfl) (updateEntry_queue _ _ s)
      (by simp [NoteEntry.sound, kind, head, tail]) (fun _ => 0) (fun k => ?_)
      ((touched e.due _).of_owed fun i => by simp)
    cases k <;> simp [NoteEntry.owes, kind, NoteEntry.not_judged_of_inHold held, oneIf]
  | forced key =>
    have queue : (takeForced key s).queue = s.queue := by simp
    exact ⟨queue ▸ h.entries, queue ▸ h.new, (h.list.takeForced key).of_owed fun i =>
      (State.entryOwed_congr (by rw [queue]) i).symm⟩

end Sys2Proof.Machine

namespace Sys2Proof.Machine

/-! ### The report list in the other operations -/

variable {s t : State} {owed owed' : ReportItem → Nat}

theorem State.judgeInFlight_of_none {s : State} (h : s.line.inFlight = none) : s.judgeInFlight = none := by
  simp [judgeInFlight, h]

/-- No JUDGE frame is latched in flight before or after. -/
theorem State.ListOk.of_idles (h : s.ListOk owed) (before : s.judgeInFlight = none) (after : t.judgeInFlight = none)
    (chords : t.chords = s.chords) (reports : t.reports = s.reports) : t.ListOk owed :=
  .of_idle after (chords ▸ h.table) h.unforced (fun i => by rw [reports, chords]; exact h.counts_idle before i)
    (reports ▸ h.order)

/-- The list begins with the item of the frame in flight. -/
theorem State.ListOk.reports_eq (h : s.ListOk owed) {j : JudgeLatch} (flying : s.judgeInFlight = some j) :
    s.reports = j.item :: s.reports.tail := by
  have first := h.head j flying
  cases list : s.reports with
  | nil => simp [list] at first
  | cons x xs =>
    rw [list] at first
    cases first
    rfl

theorem evictedKey_of_fresh {j : JudgeLatch} (flying : s.judgeInFlight = some j) (fresh : j.evicted = false) :
    evictedKey s = none := by
  simp [evictedKey_eq, flying, fresh]

theorem evictedKey_of_evicted {j : JudgeLatch} (flying : s.judgeInFlight = some j) (evicted : j.evicted = true) :
    evictedKey s = some j.item.due := by
  simp [evictedKey_eq, flying, evicted]

/-- The item of an evicted record is a forced close. -/
theorem State.ListOk.item_of_evicted (h : s.ListOk owed) {j : JudgeLatch} (flying : s.judgeInFlight = some j)
    (evicted : j.evicted = true) : j.item = ⟨.forced, j.item.due⟩ := by
  have kind := (JudgeLatch.form_iff_of_kind (h.form j flying)).mpr (h.condemned j flying evicted)
  generalize j.item = item at kind
  obtain ⟨k, d⟩ := item
  simpa using kind

/-- A frame in flight ends without its end-of-frame: an evicted item goes (R97). -/
theorem State.ListOk.dropped (h : s.ListOk owed) (chords : t.chords = s.chords) (reports : t.reports = (dropEvicted s).reports)
    (idle : t.judgeInFlight = none) : t.ListOk owed := by
  refine .of_idle idle (chords ▸ h.table) h.unforced (fun i => ?_) ?_
  · rw [reports, chords]
    cases flying : s.judgeInFlight with
    | none =>
      rw [dropEvicted_eq, flying]
      exact h.counts_idle flying i
    | some j =>
      have counted := h.counts i
      simp only [State.forcedOwed, forcedItems_eq] at counted
      cases evicted : j.evicted with
      | false =>
        rw [dropEvicted_eq, flying]
        rw [evictedKey_of_fresh flying evicted] at counted
        simpa [evicted, oneIf] using counted
      | true =>
        rw [dropEvicted_eq, flying]
        rw [evictedKey_of_evicted flying evicted, h.reports_eq flying, List.count_cons, h.item_of_evicted flying evicted] at counted
        simp only [Option.any_some, evicted, ↓reduceIte, State.setReports_reports]
        obtain ⟨k, d⟩ := i
        by_cases forced : k = .forced
        · by_cases here : d = j.item.due
          · simp only [forced, here, ↓reduceIte, beq_self_eq_true, oneIf] at counted ⊢
            omega
          · simpa [forced, here, Ne.symm here, oneIf] using counted
        · simpa [forced, Ne.symm forced] using counted
  · rw [reports]
    exact h.order.sublist (dropEvicted_sublist s)

theorem State.ListOk.hearReport (h : s.ListOk owed) (sender due : Nat) (g : Grade) : (hearReport sender due g s).ListOk owed := by
  have table := hearReport_table sender due g h.table
  unfold Machine.hearReport at table ⊢
  split
  · rename_i r found
    simp only [found] at table
    split
    · rename_i expected
      rw [if_pos expected] at table
      refine h.updateRecord _ (fun r => ?_) table
      unfold addReport
      split <;> exact ⟨rfl, rfl, rfl⟩
    · exact h
  · rename_i absent
    simp only [absent] at table
    split
    · rename_i e found
      simp only [found] at table
      split
      · rename_i joins
        rw [if_pos joins] at table
        exact h.addRecord rfl table
      · exact h
    · exact h

theorem forcedInFlight_of_idle (idle : s.judgeInFlight = none) (key : Nat) : forcedInFlight key s = false := by
  simp [forcedInFlight_eq, idle]

theorem State.ListOk.closeRecord (h : s.ListOk owed) (idle : s.judgeInFlight = none) (sender due : Nat) :
    (closeRecord sender due s).ListOk owed := by
  unfold Machine.closeRecord
  split
  · rename_i r found
    obtain ⟨mem, rfl⟩ := findRecord_some found
    split
    · split
      · exact h.removeForced mem ‹_› (forcedInFlight_of_idle idle _)
      · rename_i none
        exact h.removeRecord mem (Bool.eq_false_iff.mpr none)
    · exact h
  · exact h

theorem State.ListOk.closeOwnRecord (h : s.ListOk owed) (idle : s.judgeInFlight = none) (due : Nat) :
    (closeOwnRecord due s).ListOk owed := by
  unfold Machine.closeOwnRecord
  split
  · rename_i r found
    obtain ⟨mem, rfl⟩ := findRecord_some found
    split
    · exact h.removeForced mem ‹_› (forcedInFlight_of_idle idle _)
    · rename_i none
      exact h.removeRecord mem (Bool.eq_false_iff.mpr none)
  · exact h

theorem State.ListOk.memberSent (h : s.ListOk owed) (idle : s.judgeInFlight = none) (due : Nat) :
    (memberSent due s).ListOk owed := by
  have sent : (Machine.updateRecord due (fun r => { r with ownSent := true }) s).ListOk owed := by
    refine .of_idle idle ?_ h.unforced (fun i => ?_) h.order
    · refine h.table.update due (f := fun r => { r with ownSent := true }) (fun _ => rfl) fun r sound => ?_
      obtain ⟨named, once, -⟩ := r.sound_iff.mp sound
      exact (ChordRecord.sound_iff _).mpr ⟨named, once, fun _ => rfl⟩
    · rw [updateRecord_chords, pendingAt_update due i.due (f := fun r => { r with ownSent := true }) fun _ => ⟨rfl, rfl⟩]
      exact h.counts_idle idle i
  simp only [Machine.memberSent]
  split
  · exact sent.takeForced due
  · exact sent

/-- An own report of an entry has ended: its item leaves the list (R101). -/
theorem State.ListOk.reported (h : s.ListOk owed) {j : JudgeLatch} (flying : s.judgeInFlight = some j)
    (real : j.item.kind ≠ .forced) (chords : t.chords = s.chords) (reports : t.reports = s.reports.tail)
    (idle : t.judgeInFlight = none) (left : ∀ i, owed i = owed' i + oneIf (i = j.item)) : t.ListOk owed' := by
  have fresh : j.evicted = false := by
    rw [← Bool.not_eq_true]
    intro evicted
    exact real ((JudgeLatch.form_iff_of_kind (h.form j flying)).mpr (h.condemned j flying evicted))
  refine .of_idle idle (chords ▸ h.table) (fun due => ?_) (fun i => ?_) ?_
  · have := left ⟨.forced, due⟩
    rw [h.unforced] at this
    omega
  · have counted := h.counts i
    simp only [State.forcedOwed, forcedItems_eq, evictedKey_of_fresh flying fresh] at counted
    rw [h.reports_eq flying, List.count_cons, left] at counted
    rw [reports, chords]
    simp only [oneIf, beq_iff_eq, decide_eq_true_eq, eq_comm (a := j.item)] at counted ⊢
    simp only [reduceCtorEq, ↓reduceIte, Nat.add_zero] at counted
    omega
  · rw [reports]
    exact h.order.sublist (List.tail_sublist _)

/-- A FORCED frame has ended: its item leaves the list, with its record unless that was evicted (R86, R97). -/
theorem State.ListOk.forcedReported (h : s.ListOk owed) {j : JudgeLatch} (flying : s.judgeInFlight = some j)
    (forced : j.item.kind = .forced)
    (chords : t.chords = if j.evicted then s.chords else s.chords.filter fun r => r.key != j.item.due)
    (reports : t.reports = s.reports.tail) (idle : t.judgeInFlight = none) : t.ListOk owed := by
  have item : j.item = ⟨.forced, j.item.due⟩ := by
    generalize j.item = item at forced
    obtain ⟨k, d⟩ := item
    simpa using forced
  refine .of_idle idle ?_ h.unforced (fun i => ?_) ?_
  · rw [chords]
    split
    · exact h.table
    · exact h.table.sublist List.filter_sublist
  · have counted := h.counts i
    simp only [State.forcedOwed, forcedItems_eq] at counted
    rw [h.reports_eq flying, List.count_cons, item] at counted
    rw [reports, chords]
    obtain ⟨k, d⟩ := i
    by_cases close : k = .forced
    · by_cases here : d = j.item.due
      · cases evicted : j.evicted with
        | true =>
          rw [evictedKey_of_evicted flying evicted] at counted
          simp only [close, here, ↓reduceIte, beq_self_eq_true, oneIf] at counted ⊢
          omega
        | false =>
          have unforced := h.unforced j.item.due
          rw [evictedKey_of_fresh flying evicted] at counted
          simp only [close, here, ↓reduceIte, beq_self_eq_true, oneIf, reduceCtorEq, beq_iff_eq, unforced] at counted
          simp only [close, here, pendingAt_remove, ↓reduceIte, oneIf, Bool.false_eq_true, unforced]
          split at counted <;> omega
      · have same : pendingAt d (if j.evicted then s.chords else s.chords.filter fun r => r.key != j.item.due) =
            pendingAt d s.chords := by
          split
          · rfl
          · simp [pendingAt_remove, here]
        have unevicted : (evictedKey s == some d) = false := by
          rw [beq_eq_false_iff_ne, evictedKey_eq, flying]
          simp only [Option.bind_some]
          split <;> simp [Ne.symm here]
        simp only [close, ↓reduceIte, unevicted] at counted
        simp only [close, ↓reduceIte, same]
        simpa [here, Ne.symm here, oneIf] using counted
    · simpa [close, Ne.symm close] using counted
  · rw [reports]
    exact h.order.sublist (List.tail_sublist _)

end Sys2Proof.Machine

namespace Sys2Proof.Machine

/-! ### Entries and report list in every event -/

variable {s t : State}

theorem State.SongOk.of_emptied (entries : t.queue.entries = []) (new : t.queue.pendingInsertion = none) (chords : t.chords = [])
    (reports : t.reports = []) (idle : t.judgeInFlight = none) : t.SongOk := by
  refine ⟨by simp [entries], by simp [new], .of_idle idle (chords ▸ .nil) t.entryOwed_forced (fun i => ?_) (by simp [reports])⟩
  simp [reports, chords, pendingAt, State.entryOwed, findEntry, entries, oneIf]

theorem State.SongOk.of_idles (h : s.SongOk) (before : s.judgeInFlight = none) (after : t.judgeInFlight = none)
    (queue : t.queue = s.queue) (chords : t.chords = s.chords) (reports : t.reports = s.reports) : t.SongOk :=
  ⟨queue ▸ h.entries, queue ▸ h.new, (h.list.of_idles before after chords reports).of_owed fun i =>
    (State.entryOwed_congr (by rw [queue]) i).symm⟩

theorem State.SongOk.dropped (h : s.SongOk) (entries : t.queue.entries = s.queue.entries) (new : t.queue.pendingInsertion = none)
    (chords : t.chords = s.chords) (reports : t.reports = (dropEvicted s).reports) (idle : t.judgeInFlight = none) : t.SongOk :=
  ⟨entries ▸ h.entries, by simp [new], (h.list.dropped chords reports idle).of_owed fun i =>
    (State.entryOwed_congr entries i).symm⟩

theorem testFailure_song (idle : s.judgeInFlight = none) (h : s.SongOk) : (testFailure s).SongOk := by
  unfold testFailure
  split
  · exact .of_emptied rfl rfl rfl rfl idle
  · exact h

theorem adopt_song (sender : Nat) (k : Carried) (idle : s.judgeInFlight = none) (h : s.SongOk) : (adopt sender k s).SongOk := by
  unfold adopt
  split
  · exact testFailure_song idle (h.of_same rfl (.inr rfl) rfl rfl rfl)
  · exact h

theorem examineReport_song (sender due : Nat) (g : Grade) (h : s.SongOk) : (examineReport sender due g s).SongOk := by
  unfold examineReport
  split
  · have queue : (hearReport sender due g s).queue = s.queue := by simp
    exact ⟨queue ▸ h.entries, queue ▸ h.new, (h.list.hearReport _ _ _).of_owed fun i =>
      (State.entryOwed_congr (by rw [queue]) i).symm⟩
  · exact h

theorem NoteEntry.sound_of_same {e e' : NoteEntry} (h : e.sound = true) (kind : e'.kind = e.kind) (state : e'.state = e.state)
    (head : e'.head = e.head) (tail : e'.tail = e.tail) (sent : e'.headSent = e.headSent) : e'.sound = true := by
  unfold sound at h ⊢
  rw [kind, state, head, tail, sent]
  exact h

theorem NoteEntry.owes_of_same {e e' : NoteEntry} (kind : e'.kind = e.kind) (state : e'.state = e.state)
    (head : e'.head = e.head) (sent : e'.headSent = e.headSent) (k : ItemKind) : e'.owes k = e.owes k := by
  cases k <;> simp [owes, kind, state, head, sent]

/-- An entry closed by another station's frame: nothing that it owes changes (R83). -/
theorem examineClosure_song (sender due : Nat) (g : Grade) (idle : s.judgeInFlight = none) (h : s.SongOk) :
    (examineClosure sender due g s).SongOk := by
  unfold examineClosure
  split
  · let f : NoteEntry → NoteEntry := fun e =>
      if e.partners.contains sender && e.headUnreported then { e with chordClosed := true } else e
    have keeps (e : NoteEntry) : (f e).due = e.due ∧ (f e).kind = e.kind ∧ (f e).state = e.state ∧ (f e).head = e.head ∧
        (f e).tail = e.tail ∧ (f e).headSent = e.headSent := by
      simp only [f]
      split <;> simp
    have queue : (hearClosure sender due g s).queue = { s.queue with entries := retouch due f s.queue.entries } := by
      simp [hearClosure, closeEntry, updateEntry_queue, f]
    refine ⟨fun x mem => ?_, by rw [queue]; exact h.new, ?_⟩
    · rw [queue] at mem
      rcases mem_retouch.mp mem with ⟨e, inList, -, rfl⟩ | ⟨inList, -⟩
      · obtain ⟨-, kind, state, head, tail, sent⟩ := keeps e
        exact NoteEntry.sound_of_same (h.entries e inList) kind state head tail sent
      · exact h.entries x inList
    · have closed := (h.list.closeRecord idle sender due).of_same (t := hearClosure sender due g s) (by simp [hearClosure])
        (by simp [hearClosure]) (by simp [hearClosure])
      refine closed.of_owed fun i => ?_
      simp only [State.entryOwed, findEntry_retouch (fun e => (keeps e).1) (congrArg NoteQueue.entries queue)]
      split
      · cases findEntry i.due s with
        | none => rfl
        | some e =>
          obtain ⟨-, kind, state, head, -, sent⟩ := keeps e
          simp [NoteEntry.owes_of_same kind state head sent]
      · rfl
  · exact h

/-- What is reported of an entry when the first item is its own. -/
theorem State.SongOk.owing (h : s.SongOk) {j : JudgeLatch} (flying : s.judgeInFlight = some j) (real : j.item.kind ≠ .forced) :
    ∃ e, findEntry j.item.due s = some e ∧ e.owes j.item.kind = true := by
  have counted := h.list.counts j.item
  rw [h.list.reports_eq flying, List.count_cons_self] at counted
  simp only [State.forcedOwed, real, ↓reduceIte, Nat.add_zero, State.entryOwed] at counted
  cases found : findEntry j.item.due s with
  | none => simp [found, oneIf] at counted
  | some e =>
    refine ⟨e, rfl, ?_⟩
    rw [← Bool.not_eq_false]
    intro none
    simp [found, none, oneIf] at counted

/-- Behind a TAIL item no HEAD item of its entry stands (R69). -/
theorem State.SongOk.head_sent (h : s.SongOk) {j : JudgeLatch} (flying : s.judgeInFlight = some j) (tail : j.item.kind = .tail)
    {e : NoteEntry} (found : findEntry j.item.due s = some e) : e.owes .head = false := by
  have order := h.list.order
  have counted := h.list.counts ⟨.head, j.item.due⟩
  rw [h.list.reports_eq flying] at order counted
  have none : List.count ⟨.head, j.item.due⟩ (j.item :: s.reports.tail) = 0 := by
    rw [List.count_eq_zero]
    intro mem
    rcases List.mem_cons.mp mem with same | behind
    · rw [← same] at tail
      cases tail
    · have := List.rel_of_pairwise_cons order behind
      simp [itemBefore, tail] at this
  rw [none] at counted
  simp only [State.forcedOwed, reduceCtorEq, ↓reduceIte, Nat.add_zero, State.entryOwed, found, Option.any_some] at counted
  rw [← Bool.not_eq_true]
  intro owes
  simp [owes, oneIf] at counted

/-- The entries once an own report of one of them has ended: it owes that item no longer (R46). -/
theorem entryReported_owed (queue : s.QueueOk) (h : s.SongOk) {j : JudgeLatch} (flying : s.judgeInFlight = some j)
    (real : j.item.kind ≠ .forced) (becomes : t.queue = (entryReported j.item s).queue) :
    (∀ e ∈ t.queue.entries, e.sound = true) ∧ ∀ i, s.entryOwed i = t.entryOwed i + oneIf (i = j.item) := by
  obtain ⟨e, found, owes⟩ := h.owing flying real
  have sent := h.head_sent flying (e := e)
  rw [entryReported_queue] at becomes
  have sound (x : NoteEntry) (mem : x ∈ s.queue.entries) : x.sound = true := h.entries x mem
  generalize j.item = item at *
  obtain ⟨kind, due⟩ := item
  have removed (entries : t.queue.entries = s.queue.entries.filter fun x => x.due != due)
      (only : ∀ k, oneIf (e.owes k) = oneIf (k = kind)) :
      (∀ e ∈ t.queue.entries, e.sound = true) ∧ ∀ i, s.entryOwed i = t.entryOwed i + oneIf (i = ⟨kind, due⟩) := by
    refine ⟨fun x mem => sound x (List.mem_filter.mp (entries ▸ mem)).1, fun i => ?_⟩
    simp only [State.entryOwed, findEntry_filter entries]
    obtain ⟨k, d⟩ := i
    by_cases here : d = due
    · subst here
      simp only at found only
      simpa [found, oneIf] using only k
    · simp [here, oneIf]
  cases kind with
  | tap =>
    refine removed (by rw [becomes]) fun k => ?_
    simp only [NoteEntry.owes, Bool.and_eq_true, beq_iff_eq] at owes
    cases k <;> simp [NoteEntry.owes, owes, oneIf]
  | tail =>
    refine removed (by rw [becomes]) fun k => ?_
    have sent := sent rfl found
    simp only [NoteEntry.owes, Bool.and_eq_true, bne_iff_ne, beq_iff_eq] at owes
    cases k with
    | head => simp [sent, oneIf]
    | tap | tail | forced => simp [NoteEntry.owes, owes, oneIf]
  | head =>
    simp only [NoteEntry.owes, Bool.and_eq_true, bne_iff_ne, Bool.not_eq_true'] at owes
    obtain ⟨⟨hold, head⟩, unsent⟩ := owes
    obtain ⟨mem, here⟩ := findEntry_some found
    simp only at here
    subst here
    have entries : t.queue.entries = retouch e.due (fun x => { x with headSent := true }) s.queue.entries := by rw [becomes]; rfl
    refine ⟨?_, fun i => ?_⟩
    · rw [entries]
      refine sound_retouch queue.order mem sound ?_
      have := sound e mem
      unfold NoteEntry.sound at this ⊢
      dsimp only
      split at this <;> simp_all
    · simp only [State.entryOwed, findEntry_retouch (f := fun x => { x with headSent := true }) (fun _ => rfl) entries]
      obtain ⟨k, d⟩ := i
      by_cases here : d = e.due
      · subst here
        simp only at found
        cases k <;> simp [found, NoteEntry.owes, hold, head, unsent, oneIf]
      · simp [here, oneIf]
  | forced => exact absurd rfl real

theorem chordReported_list {owed : ReportItem → Nat} (j : JudgeLatch) (real : j.form ≠ .forced) (idle : s.judgeInFlight = none)
    (h : s.ListOk owed) : (chordReported j s).ListOk owed := by
  unfold chordReported
  split
  · exact (h.closeOwnRecord idle j.item.due).of_same (by simp) (by simp) (by simp)
  · exact h.memberSent idle _
  · exact absurd ‹_› real
  · exact h
  · exact h
  · exact h

theorem judgeApplied_song (queue : s.QueueOk) (h : s.SongOk) {j : JudgeLatch} (flying : s.judgeInFlight = some j)
    (new : s.queue.pendingInsertion = none) : (judgeApplied j (ownFrameEnded s)).SongOk := by
  have kind := JudgeLatch.form_iff_of_kind (h.list.form j flying)
  have reported : (judgeApplied j (ownFrameEnded s)).queue = (entryReported j.item s).queue := by
    rw [judgeApplied_queue, entryReported_queue, entryReported_queue]
    simp
  have new : (judgeApplied j (ownFrameEnded s)).queue.pendingInsertion = none := by
    rw [reported, entryReported_queue]
    exact new
  have idle : (judgeApplied j (ownFrameEnded s)).judgeInFlight = none :=
    State.judgeInFlight_of_none (by rw [(judgeApplied_frame _ _).2.2.2.2.2.2.2.1]; rfl)
  by_cases forced : j.item.kind = .forced
  · have form := kind.mp forced
    have same : (judgeApplied j (ownFrameEnded s)).queue.entries = s.queue.entries := by
      rw [reported, entryReported_queue]
      simp [forced]
    refine ⟨same ▸ h.entries, by simp [new], (h.list.forcedReported flying forced ?_ ?_ idle).of_owed fun i =>
      (State.entryOwed_congr same i).symm⟩
    · simp only [judgeApplied, chordReported, form, signalFlash_frame]
      split <;> simp [removeRecord_chords]
    · simp only [judgeApplied, chordReported, form, signalFlash_frame]
      split <;> simp
  · obtain ⟨sound, left⟩ := entryReported_owed queue h flying forced reported
    refine ⟨sound, by simp [new], ?_⟩
    have told := h.list.reported (t := entryReported j.item ((applyTallies j (ownFrameEnded s)).setReports s.reports.tail)) flying
      forced (by simp) (by simp) (State.judgeInFlight_of_none (by simp [ownFrameEnded, LineController.released])) left
    have chords := chordReported_list j (fun form => forced (kind.mpr form))
      (State.judgeInFlight_of_none (by simp [ownFrameEnded, LineController.released])) told
    simpa [judgeApplied] using chords

theorem completeReport_song (queue : s.QueueOk) (h : s.SongOk) (new : s.queue.pendingInsertion = none) {f : InFlight} {l : Latched}
    (flying : s.line.inFlight = some f) (latched : f.latched = some l) :
    (completeReport l.content (ownFrameEnded s)).SongOk := by
  have idle : (ownFrameEnded s).judgeInFlight = none := State.judgeInFlight_of_none rfl
  have empty (plain : ∀ j, l.content ≠ .judge j) : s.judgeInFlight = none := by
    obtain ⟨content, payload⟩ := l
    cases content <;> simp_all [State.judgeInFlight, InFlight.judge]
  cases content : l.content with
  | judge j =>
    have judge : s.judgeInFlight = some j := by
      obtain ⟨c, payload⟩ := l
      simp only at content
      simp [State.judgeInFlight, flying, InFlight.judge, latched, content]
    have applied := judgeApplied_song queue h judge new
    simp only [completeReport, judgeCompleted_eq]
    split
    · exact testFailure_song (State.judgeInFlight_of_none (by rw [(judgeApplied_frame _ _).2.2.2.2.2.2.2.1]; rfl)) applied
    · exact applied
  | mark | status => exact h.of_idles (empty (by simp [content])) idle rfl rfl rfl

end Sys2Proof.Machine

namespace Sys2Proof.Machine

variable {s t : State}

/-- What judging keeps where it happens, with the queue that it needs in order. -/
structure State.PlayOk (s : State) : Prop where
  queue : s.QueueOk
  song : s.SongOk

theorem State.PlayOk.setSense (s : State) (x : SenseUnit) (h : s.PlayOk) : (s.setSense x).PlayOk :=
  ⟨h.queue.of_same rfl id (.inr rfl), h.song.of_same rfl (.inr rfl) rfl rfl rfl⟩

theorem State.PlayOk.setClock (s : State) (x : SongClock) (h : s.PlayOk) : (s.setClock x).PlayOk :=
  ⟨h.queue.of_same rfl id (.inr rfl), h.song.of_same rfl (.inr rfl) rfl rfl rfl⟩

theorem State.PlayOk.examineDone (s : State) (h : s.PlayOk) : (examineDone s).PlayOk :=
  ⟨examineDone_queueOk h.queue, h.song.of_same (by simp) (.inr (by simp)) (by simp) (by simp) (by simp)⟩

theorem Judging.keeps_play (s t : State) (_ : s.station.state.judges = true) (move : Judging s t) (h : s.PlayOk) : t.PlayOk :=
  ⟨h.queue.of_judged move.judged (by rw [move.station]; exact id), move.keeps_song h.queue h.song⟩

/-- A decision is held only while a frame is followed, and none of the station's own is in flight then. -/
theorem LineController.Ok.inFlight_of_decision {l : LineController} (h : l.Ok) {d : Decision} (held : l.decision = some d) :
    l.inFlight = none := by
  have receiving := h.assembly (h.decision (by simp [held]))
  exact h.inFlight_none (by simp [receiving]) (by simp [receiving])

theorem heardEnd_song (idle : s.line.inFlight = none) (h : s.SongOk) : (heardEnd s).SongOk :=
  h.of_idles (State.judgeInFlight_of_none idle) (State.judgeInFlight_of_none rfl) (by simp) (by simp) (by simp)

/-- No frame in flight is latched before the payload latch. -/
theorem LineController.Ok.judge_none {s : State} (h : s.line.Ok) (contending : s.line.state = .contending) :
    s.judgeInFlight = none := by
  cases flying : s.line.inFlight with
  | none => exact State.judgeInFlight_of_none flying
  | some f =>
    cases latched : f.latched with
    | none => simp [State.judgeInFlight, flying, InFlight.judge, latched]
    | some l =>
      have := h.latched.mp (by simp [LineController.hasLatched, flying, latched])
      simp [contending] at this

theorem closingDecision_form (e : NoteEntry) (own : Grade) (s : State) :
    (closingDecision e own s).1 ≠ .tail ∧ (closingDecision e own s).1 ≠ .forced := by
  unfold closingDecision
  repeat' split
  all_goals exact ⟨nofun, nofun⟩

/-- An item is latched in a form of its kind, and not as evicted. -/
theorem latchItem_content {item : ReportItem} {l : Latched} (h : latchItem item s = some l) :
    ∃ j, l.content = .judge j ∧ j.item = item ∧ j.formOfKind = true ∧ j.evicted = false := by
  obtain ⟨kind, due⟩ := item
  have headLatched {k : HeadKind} (h : latchHead k ⟨kind, due⟩ s = some l) (head : kind = .tap ∨ kind = .head) :
      ∃ j, l.content = .judge j ∧ j.item = ⟨kind, due⟩ ∧ j.formOfKind = true ∧ j.evicted = false := by
    unfold latchHead at h
    split at h
    · rename_i e _
      split at h
      · rename_i r _
        obtain ⟨noTail, noForced⟩ := closingDecision_form e r.grade s
        generalize closingDecision e r.grade s = decided at *
        cases h
        refine ⟨_, rfl, rfl, ?_, rfl⟩
        rcases head with rfl | rfl <;> simp [JudgeLatch.formOfKind, noTail, noForced]
      · cases h
    · cases h
  cases kind with
  | tap => exact headLatched h (.inl rfl)
  | head => exact headLatched h (.inr rfl)
  | tail =>
    simp only [latchItem, latchTail] at h
    split at h
    · split at h
      · cases h
        exact ⟨_, rfl, rfl, rfl, rfl⟩
      · cases h
    · cases h
  | forced =>
    simp only [latchItem, latchForced] at h
    cases h
    exact ⟨_, rfl, rfl, rfl, rfl⟩

theorem latch_song {f : InFlight} {l : Latched} (idle : s.judgeInFlight = none) (latched : latchSource f s = some l)
    (h : s.SongOk) :
    (s.setLine { s.line with state := .sending, inFlight := some { f with latched := some l } }).SongOk := by
  have plain (content : ∀ j, l.content ≠ .judge j) :
      (s.setLine { s.line with state := .sending, inFlight := some { f with latched := some l } }).SongOk := by
    refine h.of_idles idle ?_ rfl rfl rfl
    obtain ⟨c, payload⟩ := l
    cases c with
    | judge j => exact absurd rfl (content j)
    | mark | status => rfl
  unfold latchSource at latched
  split at latched
  · cases latched
    exact plain nofun
  · rename_i source
    split at latched
    · rename_i item rest reports
      obtain ⟨j, content, own, form, fresh⟩ := latchItem_content latched
      have flying : (s.setLine { s.line with state := .sending, inFlight := some { f with latched := some l } }).judgeInFlight =
          some j := by
        obtain ⟨c, payload⟩ := l
        simp only at content
        simp [State.judgeInFlight, InFlight.judge, content]
      have counts := h.list.counts_idle idle
      refine ⟨h.entries, h.new, ⟨h.list.table, h.list.unforced, fun i => ?_, h.list.order, fun g flies _ => ?_,
        fun k flies => ?_, fun k flies => ?_, fun k flies evicted => ?_, fun k flies evicted => ?_,
        fun k flies evicted => ?_⟩⟩
      · rw [State.setLine_reports, counts]
        simp only [State.forcedOwed, forcedItems_eq, evictedKey_of_fresh flying fresh]
        rfl
      · cases flies
        exact source
      all_goals
        rw [flying] at flies
        cases flies
      · simp [reports, own]
      · exact form
      · simp [fresh] at evicted
      · simp [fresh] at evicted
      · simp [fresh] at evicted
    · cases latched
  · split at latched
    · cases latched
      exact plain nofun
    · cases latched

theorem NoteEntry.owes_of_waiting {e : NoteEntry} (sound : e.sound = true) (waits : e.state.isWaiting = true) (k : ItemKind) :
    e.owes k = false := by
  obtain ⟨head, -, -⟩ := NoteEntry.sound_of_waiting sound waits
  cases k <;> simp [owes, head, EntryState.eq_waiting waits]

/-- A START finds nothing owed: every entry waits (R34, R112). -/
theorem takeStart_song (f : StartFrame) (quiet : s.chords = [] ∧ s.reports = []) (idle : s.judgeInFlight = none)
    (waits : ∀ e ∈ s.queue.entries, e.state.isWaiting = true) (h : s.SongOk) : (takeStart f s).SongOk := by
  have fewer (e : NoteEntry) (mem : e ∈ (takeStart f s).queue.entries) : e ∈ s.queue.entries := (List.mem_filter.mp mem).1
  obtain ⟨chords, reports⟩ := quiet
  refine ⟨fun e mem => h.entries e (fewer e mem), h.new, .of_idle idle (by simp [chords, TableOk.nil])
    (State.entryOwed_forced _) (fun i => ?_) (by simp [reports])⟩
  have owed : (takeStart f s).entryOwed i = 0 := by
    unfold State.entryOwed
    cases found : findEntry i.due (takeStart f s) with
    | none => rfl
    | some e =>
      have mem := fewer e (findEntry_some found).1
      simp [NoteEntry.owes_of_waiting (h.entries e mem) (waits e mem), oneIf]
  simp [owed, chords, reports, pendingAt, oneIf]

theorem noteEntry_sound {own : Nat} {f : NoteFrame} {e : NoteEntry} (h : noteEntry own f = some e) : e.sound = true := by
  obtain ⟨state, head, sent, tail, -⟩ := noteEntry_waiting h
  unfold NoteEntry.sound
  cases e.kind <;> simp [state, head, sent, tail]

theorem noteEffect_song {d : Decision} {f : NoteFrame} (held : s.line.decision = some d) (frame : d.frame = .note f)
    (idle : s.line.inFlight = none) (queue : s.QueueOk) (waiting : s.WaitingOk) (h : s.SongOk) :
    (noteEffect d (heardEnd s)).SongOk := by
  have ended := heardEnd_song idle h
  rcases noteEffect_cases held frame queue with ⟨-, same⟩ | ⟨-, r, same⟩ | ⟨e, new, same⟩ <;> rw [same]
  · exact ended
  · exact ended.of_same (by simp [recordRefusal]) (.inr (by simp [recordRefusal])) (by simp) (by simp) (by simp)
  · have waits := waiting.new e new
    have sound := h.new e new
    have apart := (fits_iff _ _).mp (queue.new e new)
    refine ⟨fun x mem => ?_, nofun, State.ListOk.of_owed (owed := (heardEnd s).entryOwed) (ended.list.of_same rfl rfl rfl) fun i => ?_⟩
    · rcases mem_insertEntry.mp mem with rfl | mem
      · exact sound
      · exact h.entries x mem
    · by_cases here : i.due = e.due
      · have before : findEntry i.due (heardEnd s) = none := by
          rw [findEntry, List.find?_eq_none]
          intro x mem
          simpa [here] using (apart x (by simpa using mem)).1
        unfold State.entryOwed
        rw [before]
        cases found : findEntry i.due ((heardEnd s).setQueue _) with
        | none => rfl
        | some x =>
          obtain ⟨mem, due⟩ := findEntry_some found
          rcases mem_insertEntry.mp mem with rfl | mem
          · simp [NoteEntry.owes_of_waiting sound waits]
          · exact absurd (due.trans here) (apart x mem).1
      · have inserted : findEntry i.due ((heardEnd s).setQueue
            { s.queue with entries := insertEntry e s.queue.entries, pendingInsertion := none }) = findEntry i.due (heardEnd s) :=
          findEntry_insert rfl _ here
        rw [State.entryOwed, State.entryOwed, inserted]

/-- All that is kept together, event by event. -/
structure State.KeptOk (s : State) : Prop where
  station : s.StationOk
  line : s.line.Ok
  queue : s.QueueOk
  rest : s.RestOk
  chords : s.ChordsOk
  song : s.SongOk

theorem endStartup_song (h : s.SongOk) : (endStartup s).SongOk := by
  unfold endStartup
  split
  · exact h.of_same (by simp) (.inr (by simp)) (by simp) (by simp) (by simp)
  · exact .of_emptied rfl rfl rfl rfl (State.judgeInFlight_of_none rfl)

theorem State.SongOk.of_reset (p : Straps) (s : State) : (resetStation p s).SongOk := by
  rw [resetStation_eq]
  exact .of_emptied rfl rfl rfl rfl (State.judgeInFlight_of_none rfl)

/-- Every event keeps the entries and the report list sound, where the rest is. -/
theorem Event.keeps_song {c : Option Instr} (e : Event c s t) (h : s.KeptOk) : t.SongOk := by
  have play : s.PlayOk := ⟨h.queue, h.song⟩
  have grounded {d : Decision} (held : s.line.decision = some d) : (heardEnd s).SongOk :=
    heardEnd_song (h.line.inFlight_of_decision held) h.song
  have onGround : (heardEnd s).judgeInFlight = none := State.judgeInFlight_of_none rfl
  cases e with
  | reset p => exact .of_reset p s
  | heardRestart _ _ p => exact .of_reset p _
  | duplicate => exact .of_emptied rfl rfl rfl rfl (State.judgeInFlight_of_none rfl)
  | heardStop => exact .of_emptied rfl rfl rfl rfl (State.judgeInFlight_of_none rfl)
  | losePower =>
    refine h.song.dropped ?_ ?_ (by simp) (by simp) (State.judgeInFlight_of_none ?_)
    · rw [losePower_queue]
    · rw [losePower_queue]
    · simp [LineController.dead]
  | abort =>
    exact h.song.dropped (by simp [abortFrame]) (by simp [abortFrame]) (by simp) (by simp [abortFrame])
      (State.judgeInFlight_of_none rfl)
  | startupEnd => exact endStartup_song h.song
  | sample raws => exact (takeSample_keep State.PlayOk.setSense Judging.keeps_play raws play).song
  | tick => exact (tickBoundary_keep State.PlayOk.setClock State.PlayOk.examineDone Judging.keeps_play play).song
  | heardMark d f held frame =>
    have ended : (heardEnd s).PlayOk :=
      ⟨heardEnd_queueOk (h.queue.insertion_none_of_frame held (by simp [frame])) h.queue, grounded held⟩
    exact (takeMark_keep State.PlayOk.setClock State.PlayOk.examineDone Judging.keeps_play _ ended).song
  | threshold x judges => exact (takeThreshold_keep Judging.keeps_play x judges play).song
  | contend src rivals free =>
    refine h.song.of_idles (State.judgeInFlight_of_none (h.line.inFlight_none (by simp [free]) (by simp [free]))) ?_ (by simp)
      (by simp) (by simp)
    simp only [Machine.contend]
    split <;> rfl
  | latch f l contending flying latched => exact latch_song (h.line.judge_none contending) latched h.song
  | markSent f sending flying source =>
    have plain : s.judgeInFlight = none := by
      rw [← Option.not_isSome_iff_eq_none]
      intro judge
      have := h.song.list.source f flying (by simpa [State.judgeInFlight, flying] using judge)
      simp [source] at this
    exact h.song.of_idles plain (State.judgeInFlight_of_none rfl) rfl rfl rfl
  | statusSent f sending flying source =>
    have plain : s.judgeInFlight = none := by
      rw [← Option.not_isSome_iff_eq_none]
      intro judge
      have := h.song.list.source f flying (by simpa [State.judgeInFlight, flying] using judge)
      simp [source] at this
    exact h.song.of_idles plain (State.judgeInFlight_of_none rfl) rfl rfl rfl
  | reportSent f l sending flying source latched =>
    have new : s.queue.pendingInsertion = none := h.queue.insertion_none fun d held => by
      simp [h.line.decision_none (by simp [sending])] at held
    exact completeReport_song h.queue h.song new flying latched
  | decided ahead f examines follows =>
    obtain ⟨-, -, idle⟩ := s.line.mayFollow_iff.mp follows
    have listed : (decideFrame ahead f s).ListOk s.entryOwed := h.song.list.of_same rfl rfl rfl
    refine ⟨h.song.entries, fun e new => ?_, listed.of_owed fun i => (State.entryOwed_congr rfl i).symm⟩
    obtain ⟨n, adj, -, made, -⟩ := insertionOf_some (ahead := ahead) (f := f) (s := s) new
    exact noteEntry_sound (testNote_ok made).2.1
  | unread follows =>
    obtain ⟨-, -, idle⟩ := s.line.mayFollow_iff.mp follows
    exact heardEnd_song idle h.song
  | heardStart d f held frame accepted =>
    have idle := h.station.startIdle d f held frame accepted
    have quiet := h.chords.confined (by simp [idle, StationState.judges])
    exact takeStart_song f (by simpa using quiet) onGround (by simpa using h.rest.waiting.idle idle) (grounded held)
  | heardNote d f held frame =>
    exact noteEffect_song held frame (h.line.inFlight_of_decision held) h.queue h.rest.waiting h.song
  | heardMember d r held => exact examineReport_song _ _ _ (grounded held)
  | heardClosure d k held =>
    exact adopt_song _ _ (State.judgeInFlight_of_none (by simp [heardEnd, LineController.released]))
      (examineClosure_song _ _ _ onGround (grounded held))
  | heardTail d f held => exact adopt_song _ _ onGround (grounded held)
  | ended d held => exact grounded held
  | heardLamp d _ _ held | heardWrite d _ held | heardStore d _ held =>
    exact (grounded held).of_same (by simp) (.inr (by simp)) (by simp) (by simp) (by simp)
  | heardQuery d _ held => exact (grounded held).of_same rfl (.inr rfl) rfl rfl rfl
  | assembly | edge | countHigh | runtFree | runtDropped => exact h.song.of_same rfl (.inr rfl) rfl rfl rfl
  | _ => exact h.song.of_same (by simp) (.inr (by simp)) (by simp) (by simp) (by simp)

/-- Every event keeps all of it. -/
theorem Event.keeps_kept {c : Option Instr} (e : Event c s t) (h : s.KeptOk) : t.KeptOk :=
  ⟨e.keeps_stationOk h.station, e.keeps_line h.line, e.keeps_queue h.line h.queue, e.keeps_rest h.queue h.rest,
    e.keeps_chords h.chords, e.keeps_song h⟩

end Sys2Proof.Machine

namespace Sys2Proof.Machine

/-! ### What `reportsSound` says, item by item -/

variable {s : State}

theorem itemCount_eq (kind : ItemKind) (due : Nat) (s : State) : itemCount kind due s = s.reports.count ⟨kind, due⟩ := by
  rw [itemCount, List.count]
  congr 1
  funext i
  rw [Bool.eq_iff_iff]
  obtain ⟨k, d⟩ := i
  simp

theorem itemsOfEntry_iff (s : State) (e : NoteEntry) :
    itemsOfEntry s e = true ↔ ∀ k, k ≠ .forced → s.reports.count ⟨k, e.due⟩ = oneIf (e.owes k) := by
  have kinds (p : ItemKind → Prop) : (∀ k, k ≠ .forced → p k) ↔ p .tap ∧ p .head ∧ p .tail :=
    ⟨fun h => ⟨h _ nofun, h _ nofun, h _ nofun⟩, fun ⟨tap, head, tail⟩ k real => by cases k <;> simp_all⟩
  unfold itemsOfEntry
  rw [kinds]
  split <;> simp_all [itemCount_eq, NoteEntry.owes, oneIf, and_assoc]

theorem forcedOwed_forced (s : State) (due : Nat) : s.forcedOwed ⟨.forced, due⟩ = forcedItems due s := rfl

theorem evictedSound_iff (s : State) : evictedSound s = true ↔ ∀ j, s.judgeInFlight = some j → j.evicted = true →
    (∀ r ∈ s.chords, r.key = j.item.due → r.ownSent = false) ∧
      (s.chords.length < chordCapacity ∨ ∃ r ∈ s.chords, r.ownSent = false) := by
  rw [evictedSound, evictedKey_eq]
  cases flying : s.judgeInFlight with
  | none => simp
  | some j => cases evicted : j.evicted <;> simp [evicted]

/-- A list with the items `reportsSound` names is one of just what is owed. -/
theorem State.ListOk.of_sound (table : TableOk s.chords) (order : s.queue.entries.Pairwise fun a b => noteBefore a b = true)
    (h : reportsSound s = true) : s.ListOk s.entryOwed := by
  simp only [reportsSound, Bool.and_eq_true, List.all_eq_true, itemsOfEntry_iff, itemCount_eq, beq_iff_eq, pairwise_iff,
    latchAtHead_iff, evictedSound_iff] at h
  obtain ⟨⟨⟨⟨⟨⟨⟨items, closes⟩, named⟩, listed⟩, latch⟩, evicted⟩, -⟩, -⟩ := h
  refine ⟨table, s.entryOwed_forced, fun i => ?_, listed, fun f flying judged => ?_, fun j flying => (latch j flying).2.1,
    fun j flying => (latch j flying).2.2.1, fun j flying => (latch j flying).2.2.2, fun j flying gone => (evicted j flying gone).1,
    fun j flying gone => (evicted j flying gone).2⟩
  · obtain ⟨k, d⟩ := i
    by_cases mem : ⟨k, d⟩ ∈ s.reports
    · have name := named _ mem
      by_cases forced : k = .forced
      · subst forced
        simpa [itemNamed, itemCount_eq, State.entryOwed_forced, forcedOwed_forced] using name
      · obtain ⟨e, inQueue, here⟩ : ∃ e ∈ s.queue.entries, e.due = d := by
          cases k <;> simp_all [itemNamed]
        subst here
        rw [items e inQueue k forced]
        simp [State.entryOwed, findEntry_of_mem order inQueue, State.forcedOwed, forced]
    · rw [List.count_eq_zero.mpr mem]
      have none := List.count_eq_zero.mpr mem
      by_cases forced : k = .forced
      · subst forced
        rw [State.entryOwed_forced, forcedOwed_forced, forcedItems_eq]
        have unevicted : (evictedKey s == some d) = false := by
          rw [beq_eq_false_iff_ne, evictedKey_eq]
          intro gone
          obtain ⟨j, flying, due⟩ := Option.bind_eq_some_iff.mp gone
          split at due
          · obtain ⟨-, first, form, close⟩ := latch j flying
            have kind := (JudgeLatch.form_iff_of_kind form).mpr (close ‹_›)
            have item : j.item = ⟨.forced, d⟩ := by
              rw [← Option.some.inj due]
              generalize j.item = item at kind
              obtain ⟨k, d⟩ := item
              simpa using kind
            exact mem (List.mem_of_mem_head? (item ▸ first))
          · cases due
        have unpending : pendingAt d s.chords = false := by
          rw [← Bool.not_eq_true, pendingAt_iff]
          rintro ⟨r, inTable, here, pending⟩
          have := closes r inTable
          rw [here, none, forcedItems_eq, ← here, table.pendingAt_of_mem inTable, pending] at this
          simp only [oneIf, ↓reduceIte] at this
          omega
        simp [unevicted, unpending, oneIf]
      · have unowed : s.entryOwed ⟨k, d⟩ = 0 := by
          unfold State.entryOwed
          cases found : findEntry d s with
          | none => simp [oneIf]
          | some e =>
            obtain ⟨inQueue, here⟩ := findEntry_some found
            have := items e inQueue k forced
            rw [here, none] at this
            simpa using this.symm
        simp [unowed, State.forcedOwed, forced]
  · obtain ⟨j, judge⟩ := Option.isSome_iff_exists.mp judged
    obtain ⟨⟨g, flies, source⟩, -⟩ := latch j (by simp [State.judgeInFlight, flying, judge])
    rw [flying] at flies
    exact Option.some.inj flies ▸ source

/-- The items an entry owes. -/
def NoteEntry.owedItems (e : NoteEntry) : List ReportItem :=
  ([ItemKind.tap, .head, .tail].filter e.owes).map fun k => ⟨k, e.due⟩

theorem NoteEntry.owedItems_length (e : NoteEntry) : e.owedItems.length ≤ 2 := by
  cases kind : e.kind with
  | tap => cases judged : e.state == .judged <;> simp [owedItems, owes, kind, judged]
  | hold n =>
    have noTap : e.owes .tap = false := by simp [owes, kind]
    rw [owedItems, List.length_map, List.filter_cons_of_neg (by simp [noTap])]
    exact List.length_filter_le _ _

/-- The forced closes in the list: those of records, and the one of an evicted record in flight. -/
def State.forcedOnes (s : State) : List ReportItem :=
  (s.chords.filter ChordRecord.forcedPending).map (fun r => ⟨.forced, r.key⟩) ++ (evictedKey s).toList.map fun k => ⟨.forced, k⟩

theorem State.ListOk.forcedOnes_length {owed : ReportItem → Nat} (h : s.ListOk owed) : s.forcedOnes.length ≤ chordCapacity := by
  have fewer := List.length_filter_le ChordRecord.forcedPending s.chords
  have room := h.table.room
  simp only [State.forcedOnes, List.length_append, List.length_map]
  cases gone : evictedKey s with
  | none =>
    simp only [Option.toList_none, List.length_nil]
    omega
  | some k =>
    rw [evictedKey_eq] at gone
    obtain ⟨j, flying, due⟩ := Option.bind_eq_some_iff.mp gone
    split at due
    · simp only [Option.toList_some, List.length_singleton]
      rcases h.slots j flying ‹_› with room | ⟨r, mem, unsent⟩
      · omega
      · have fresh : r.forcedPending = false := by
          rw [← Bool.not_eq_true]
          intro pending
          have := (r.sound_iff.mp (h.table.records r mem)).2.2 pending
          simp [unsent] at this
        have := List.length_filter_lt_length_iff_exists (p := ChordRecord.forcedPending) |>.mpr ⟨r, mem, by simp [fresh]⟩
        omega
    · cases due

theorem State.ListOk.count_le_one (h : s.ListOk s.entryOwed) (i : ReportItem) : s.reports.count i ≤ 1 := by
  rw [h.counts]
  obtain ⟨k, d⟩ := i
  by_cases forced : k = .forced
  · subst forced
    rw [State.entryOwed_forced, forcedOwed_forced, forcedItems_eq]
    cases pending : pendingAt d s.chords with
    | false => unfold oneIf; simp only [Bool.false_eq_true, ↓reduceIte]; split <;> omega
    | true =>
      obtain ⟨r, mem, here, pending⟩ := pendingAt_iff.mp pending
      have unevicted : (evictedKey s == some d) = false := by
        rw [beq_eq_false_iff_ne, evictedKey_eq]
        intro gone
        obtain ⟨j, flying, due⟩ := Option.bind_eq_some_iff.mp gone
        split at due
        · have unsent := h.unsent j flying ‹_› r mem (here.trans (Option.some.inj due).symm)
          have := (r.sound_iff.mp (h.table.records r mem)).2.2 pending
          simp [unsent] at this
        · cases due
      simp [unevicted, oneIf]
  · simp only [State.forcedOwed, forced, ↓reduceIte, Nat.add_zero, State.entryOwed, oneIf]
    split <;> omega

/-- At most 72 items: two of each entry, and a forced close of each record (R96). -/
theorem State.ListOk.length_le (h : s.ListOk s.entryOwed) (room : s.queue.entries.length ≤ queueCapacity) :
    s.reports.length ≤ 72 := by
  have once : s.reports.Nodup := List.nodup_iff_count_le_one.mpr h.count_le_one
  have named : s.reports ⊆ s.queue.entries.flatMap NoteEntry.owedItems ++ s.forcedOnes := by
    intro i mem
    have counted := h.counts i
    have := List.count_pos_iff.mpr mem
    obtain ⟨k, d⟩ := i
    rw [List.mem_append]
    by_cases forced : k = .forced
    · subst forced
      right
      rw [State.entryOwed_forced, forcedOwed_forced, forcedItems_eq] at counted
      rw [State.forcedOnes, List.mem_append]
      cases pending : pendingAt d s.chords with
      | true =>
        obtain ⟨r, inTable, here, pending⟩ := pendingAt_iff.mp pending
        exact .inl (List.mem_map.mpr ⟨r, List.mem_filter.mpr ⟨inTable, pending⟩, by rw [here]⟩)
      | false =>
        cases gone : evictedKey s == some d with
        | true => exact .inr (by simp [eq_of_beq gone])
        | false => simp only [pending, gone, oneIf, Bool.false_eq_true, ↓reduceIte] at counted; omega
    · left
      simp only [State.forcedOwed, forced, ↓reduceIte, Nat.add_zero, State.entryOwed] at counted
      cases found : findEntry d s with
      | none => simp only [found, Option.any_none, oneIf, Bool.false_eq_true, ↓reduceIte] at counted; omega
      | some e =>
        obtain ⟨inQueue, here⟩ := findEntry_some found
        refine List.mem_flatMap.mpr ⟨e, inQueue, List.mem_map.mpr ⟨k, List.mem_filter.mpr ⟨?_, ?_⟩, by rw [here]⟩⟩
        · cases k <;> simp_all
        · rw [← Bool.not_eq_false]
          intro none
          simp only [found, Option.any_some, none, oneIf, Bool.false_eq_true, ↓reduceIte] at counted
          omega
  have fits := (once.subperm named).length_le
  have entries : (s.queue.entries.flatMap NoteEntry.owedItems).length ≤ s.queue.entries.length * 2 := by
    rw [List.length_flatMap]
    exact (List.sum_le_card_nsmul _ 2 (by simpa using fun e _ => e.owedItems_length)).trans (by simp)
  have forced := h.forcedOnes_length
  rw [List.length_append] at fits
  simp only [queueCapacity, chordCapacity] at room forced
  omega

theorem reportsSound_of_kept (h : s.KeptOk) : reportsSound s = true := by
  obtain ⟨-, confined⟩ := (chordsOk_iff s).mpr h.chords
  have list := h.song.list
  have room : s.queue.entries.length ≤ queueCapacity := by
    have := h.queue.room
    unfold NoteQueue.held at this
    omega
  simp only [reportsSound, Bool.and_eq_true, List.all_eq_true, itemsOfEntry_iff, itemCount_eq, beq_iff_eq, pairwise_iff,
    latchAtHead_iff, evictedSound_iff, decide_eq_true_eq]
  refine ⟨⟨⟨⟨⟨⟨⟨fun e mem k real => ?_, fun r mem => ?_⟩, fun i mem => ?_⟩, list.order⟩, fun j flying => ⟨?_, list.head j flying,
    list.form j flying, list.condemned j flying⟩⟩, fun j flying gone => ⟨list.unsent j flying gone, list.slots j flying gone⟩⟩,
    confined⟩, list.length_le room⟩
  · rw [list.counts]
    simp [State.entryOwed, findEntry_of_mem h.queue.order mem, State.forcedOwed, real]
  · rw [list.counts, State.entryOwed_forced, forcedOwed_forced, Nat.zero_add]
  · have counted := list.counts i
    have := List.count_pos_iff.mpr mem
    obtain ⟨k, d⟩ := i
    by_cases forced : k = .forced
    · subst forced
      simpa [itemNamed, itemCount_eq, State.entryOwed_forced, forcedOwed_forced] using counted
    · simp only [State.forcedOwed, forced, ↓reduceIte, Nat.add_zero, State.entryOwed] at counted
      cases found : findEntry d s with
      | none => simp only [found, Option.any_none, oneIf, Bool.false_eq_true, ↓reduceIte] at counted; omega
      | some e =>
        obtain ⟨inQueue, here⟩ := findEntry_some found
        have named : ∃ x ∈ s.queue.entries, x.due = d := ⟨e, inQueue, here⟩
        cases k <;> simp_all [itemNamed]
  · obtain ⟨f, flying, judge⟩ := Option.bind_eq_some_iff.mp flying
    exact ⟨f, flying, list.source f flying (by simp [judge])⟩

theorem kept_of_sound (h : s.sound = true) : s.KeptOk := by
  simp only [State.sound, Bool.and_eq_true] at h
  obtain ⟨⟨⟨⟨⟨⟨⟨⟨⟨⟨⟨⟨⟨-, -⟩, queue⟩, entries⟩, holds⟩, chords⟩, line⟩, reports⟩, -⟩, -⟩, station⟩, decision⟩, -⟩, -⟩ := h
  have queue := (queueSound_iff s).mp queue
  simp only [entriesSound, Bool.and_eq_true, List.all_eq_true, Option.all_eq_true] at entries
  obtain ⟨⟨entries, new⟩, waiting⟩ := entries
  have confined : reportsConfined s = true := by
    simp only [reportsSound, Bool.and_eq_true] at reports
    exact reports.1.2
  have table := (chordsOk_iff s).mp ⟨chords, confined⟩
  exact ⟨(stationOk_iff s).mp ⟨station, decision⟩, (lineSound_iff s).mp line, queue,
    ⟨(waitingSound_iff s).mp waiting, (holdsSound_iff queue.order).mp holds⟩, table,
    ⟨entries, new, .of_sound table.table queue.order reports⟩⟩

theorem State.KeptOk.setPending (s : State) (rest : List Instr) (h : s.KeptOk) : (s.setPending rest).KeptOk :=
  ⟨h.station.of_same rfl rfl fun _ => id, h.line, h.queue.of_same rfl id (.inr rfl), ⟨⟨h.rest.waiting.idle, h.rest.waiting.new⟩,
    h.rest.holds⟩, h.chords.of_same rfl rfl id, h.song.of_same rfl (.inr rfl) rfl rfl rfl⟩

theorem entriesSound_of_kept (h : s.KeptOk) : entriesSound s = true := by
  simp only [entriesSound, Bool.and_eq_true, List.all_eq_true, Option.all_eq_true]
  exact ⟨⟨h.song.entries, h.song.new⟩, (waitingSound_iff s).mpr h.rest.waiting⟩

/-- From a sound state a step leaves all that is kept. -/
theorem kept_of_step {t : State} (h : s.sound = true) (stepped : step s = .next t) : t.KeptOk :=
  step_keeps State.KeptOk.setPending (fun _ _ _ e => e.keeps_kept) (kept_of_sound h) stepped

end Sys2Proof.Machine

namespace Sys2Proof.Proofs

open Sys2Proof.Machine

/-- Settles O36: the table by itself, the report list with all it is kept with. -/
theorem chordInvariant : Obligations.ChordInvariant := by
  refine ⟨fun s t chords reports stepped => ?_, fun s t sound stepped => reportsSound_of_kept (kept_of_step sound stepped)⟩
  rw [chordsOk_iff]
  exact step_keeps (P := State.ChordsOk) (fun _ _ h => h.of_same rfl rfl id) (fun _ _ _ e => e.keeps_chords)
    ((chordsOk_iff s).mp ⟨chords, reports⟩) stepped

/-- The queue, the line and the holds together, as O40 keeps them. -/
structure QueueKept (s : State) : Prop where
  line : s.line.Ok
  queue : s.QueueOk
  rest : s.RestOk

/-- Settles O40: queue with line, then the holds with both, then the entries with the report list. -/
theorem queueInvariant : Obligations.QueueInvariant := by
  refine ⟨fun s t queue line stepped => ?_, fun s t queue line waiting holds stepped => ?_,
    fun s t sound stepped => entriesSound_of_kept (kept_of_step sound stepped)⟩
  · rw [queueSound_iff] at queue ⊢
    rw [lineSound_iff] at line ⊢
    exact step_keeps (P := fun s => s.QueueOk ∧ s.line.Ok) (fun _ _ h => ⟨h.1.of_same rfl id (.inr rfl), h.2⟩)
      (fun _ _ _ e h => ⟨e.keeps_queue h.2 h.1, e.keeps_line h.2⟩) ⟨queue, line⟩ stepped
  · have queue := (queueSound_iff s).mp queue
    have kept : QueueKept t := step_keeps (P := QueueKept)
      (fun _ _ h => ⟨h.line, h.queue.of_same rfl id (.inr rfl), ⟨⟨h.rest.waiting.idle, h.rest.waiting.new⟩, h.rest.holds⟩⟩)
      (fun _ _ _ e h => ⟨e.keeps_line h.line, e.keeps_queue h.line h.queue, e.keeps_rest h.queue h.rest⟩)
      ⟨(lineSound_iff s).mp line, queue, ⟨(waitingSound_iff s).mp waiting, (holdsSound_iff queue.order).mp holds⟩⟩ stepped
    exact ⟨(waitingSound_iff t).mpr kept.rest.waiting, (holdsSound_iff kept.queue.order).mpr kept.rest.holds⟩

end Sys2Proof.Proofs

/-! ## The machine: the queue of commands, what few events may write, and the two points of a frame -/

namespace Sys2Proof.Machine

/-! ### What every event leaves -/

variable {c : Option Instr} {s t : State}

theorem Event.keeps_pending (e : Event c s t) : t.pending = s.pending := by
  cases e <;> simp

/-- Without supply only a RESET does anything. -/
theorem effect_off {c : Instr} (off : s.powered = false) (others : ∀ p, c ≠ .reset p) : effect c s = s := by
  cases c with
  | reset p => exact absurd rfl (others p)
  | zoneFault | zoneRecovery | openFlag | frameStart | payloadLatch =>
    simp only [effect, exec, execZoneFault, execZoneRecovery, execOpenFlag, execFrameStart, execPayloadLatch,
      whenPowered_off s _ off]
  | _ => exact whenPowered_off s _ off

/-! ### Guarded registers -/

/-- Only a reset writes the straps. -/
theorem Event.straps_eq (e : Event c s t) (others : ¬((∃ p, c = some (.reset p)) ∨ ∃ a p q, c = some (.restart a p q))) :
    t.straps = s.straps := by
  cases e with
  | reset p by_command => exact absurd (.inl ⟨p, by_command⟩) others
  | heardRestart _ a p _ _ by_command =>
    obtain ⟨q, command⟩ := by_command
    exact absurd (.inr ⟨a, p, q, command⟩) others
  | _ => simp

@[simp] theorem applyTallies_noteValue (j : JudgeLatch) (s : State) : (applyTallies j s).tally.noteValue = s.tally.noteValue := by
  unfold applyTallies
  split <;> rfl

@[simp] theorem completeReport_noteValue (l : Latch) (s : State) :
    (completeReport l s).tally.noteValue = s.tally.noteValue := by
  unfold completeReport
  split <;> simp

@[simp] theorem adopt_noteValue (sender : Nat) (k : Carried) (s : State) :
    (adopt sender k s).tally.noteValue = s.tally.noteValue := by
  unfold adopt
  split
  · simp
  · rfl

/-- What a START sets up: the judging parameters and the note value. -/
def State.songValues (s : State) : JudgeParams × Nat := (s.judge, s.tally.noteValue)

/-- Only a reset and a START write the judging parameters and the note value. -/
theorem Event.songValues_eq (e : Event c s t)
    (others : ¬((∃ p, c = some (.reset p)) ∨ (∃ a p q, c = some (.restart a p q)) ∨ ∃ f p, c = some (.start f p))) :
    t.songValues = s.songValues := by
  cases e with
  | reset p by_command => exact absurd (.inl ⟨p, by_command⟩) others
  | heardRestart _ a p _ _ by_command =>
    obtain ⟨q, command⟩ := by_command
    exact absurd (.inr (.inl ⟨a, p, q, command⟩)) others
  | heardStart _ f _ _ _ by_command =>
    obtain ⟨p, command⟩ := by_command
    exact absurd (.inr (.inr ⟨f, p, command⟩)) others
  | heardClosure | heardTail | reportSent => simp [State.songValues, closureEffect]
  | _ => simp [State.songValues]

@[simp] theorem abandonStore_working (s : State) : (abandonStore s).settings.working = s.settings.working := by
  unfold abandonStore
  split <;> rfl

@[simp] theorem completeStore_working (s : State) : (completeStore s).settings.working = s.settings.working := by
  unfold completeStore
  split <;> rfl

/-- Only the load and a WRITE write the working settings. -/
theorem Event.working_eq (e : Event c s t) (others : ¬(c = some .settingsLoad ∨ ∃ f p, c = some (.write f p))) :
    t.settings.working = s.settings.working := by
  cases e with
  | load by_command => exact absurd (.inl by_command) others
  | heardWrite _ f _ _ by_command =>
    obtain ⟨p, command⟩ := by_command
    exact absurd (.inr ⟨f, p, command⟩) others
  | reset | heardRestart => exact abandonStore_working _
  | losePower => simp [losePower_settings]
  | heardStore => rfl
  | _ => simp

/-- Only the completion of a STORE, and what abandons one, write the copy. -/
theorem Event.nv_eq (e : Event c s t)
    (others : ¬(c = some .storeComplete ∨ c = none ∨ c = some .powerLoss ∨ (∃ p, c = some (.reset p)) ∨
      ∃ a p q, c = some (.restart a p q))) :
    t.settings.nv = s.settings.nv := by
  cases e with
  | reset p by_command => exact absurd (.inr (.inr (.inr (.inl ⟨p, by_command⟩)))) others
  | heardRestart _ a p _ _ by_command =>
    obtain ⟨q, command⟩ := by_command
    exact absurd (.inr (.inr (.inr (.inr ⟨a, p, q, command⟩)))) others
  | losePower by_command => exact absurd (.inr (.inr (.inl by_command))) others
  | storeComplete by_command =>
    rcases by_command with command | cell
    · exact absurd (.inl command) others
    · exact absurd (.inr (.inl cell)) others
  | load => rfl
  | heardStore => rfl
  | heardWrite => simp [takeWrite_settings]
  | _ => simp

/-- What no event of a command writes, the command leaves. -/
theorem effect_keeps {α : Type} {c : Instr} (field : State → α) (event : ∀ s t, Event (some c) s t → field t = field s)
    (s : State) : field (effect c s) = field s :=
  (effect_events c s).keep (P := fun t => field t = field s) (fun _ _ e same => (event _ _ e).trans same) rfl

/-! ### The two points of a frame -/

/-- A command that brings a frame is the frame received, with one effect at each of its points. -/
theorem exec_atPoint {c : Instr} {f : Frame} (h : c.frame = some f) :
    ∃ effect, ∀ p s, exec (c.atPoint p) s = .next (whenPowered s (receive f effect p)) := by
  cases c <;> cases h <;> exact ⟨_, fun _ _ => rfl⟩

/-- With no tick boundary in the acknowledge cell, the decision a cell ahead is the one at the end-of-frame. -/
theorem adjClockAhead_eq {s : State} (h : s.clock.advances = true → s.clock.phase ≠ 19) (ahead : Bool) :
    adjClockAhead ahead s = s.adjClock := by
  unfold adjClockAhead
  rw [if_neg]
  simp only [Bool.and_eq_true, decide_eq_true_eq]
  rintro ⟨⟨-, advances⟩, last⟩
  exact h advances last

theorem reachAck_eq {s : State} (h : s.clock.advances = true → s.clock.phase ≠ 19) (ahead : Bool) (f : Frame) :
    reachAck ahead f s = reachAck false f s := by
  have verdict (n : NoteFrame) : noteVerdict ahead n s = noteVerdict false n s := by
    simp only [noteVerdict, adjClockAhead_eq h]
  have decided : decideFrame ahead f s = decideFrame false f s := by
    cases f <;> simp only [decideFrame, accepts, refusalOf, insertionOf, verdict]
  simp only [reachAck, decided]

end Sys2Proof.Machine

namespace Sys2Proof.Proofs

open Sys2Proof.Machine

/-- Settles O1: a step takes the command at the front. -/
theorem stepRunsFront : Obligations.StepRunsFront := by
  intro c rest s waiting
  simp only [step, waiting]
  rfl

/-- Settles O3: every command is a chain of events, none of which touches the queue of commands. -/
theorem everyCommandAnswers : Obligations.EveryCommandAnswers :=
  fun c s => ⟨effect c s, exec_eq_next c s, effect_keeps State.pending (fun _ _ e => e.keeps_pending) s, effect_off⟩

/-- Settles O4: each register is written by the events of its commands only. -/
theorem guardedRegisters : Obligations.GuardedRegisters := by
  intro c s t h
  rw [exec_eq_next] at h
  cases h
  refine ⟨fun changed => ?_, fun changed => ?_, fun changed => ?_, fun changed => ?_⟩ <;> by_contra others
  · exact changed (effect_keeps State.straps (fun _ _ e => e.straps_eq (by simpa using others)) s)
  · have same := effect_keeps State.songValues (fun _ _ e => e.songValues_eq (by simpa using others)) s
    simp only [State.songValues, Prod.mk.injEq] at same
    exact changed.elim (· same.1) (· same.2)
  · exact changed (effect_keeps (·.settings.working) (fun _ _ e => e.working_eq (by simpa using others)) s)
  · exact changed (effect_keeps (·.settings.nv) (fun _ _ e => e.nv_eq (by simpa using others)) s)

/-- Settles O5: the decision taken a cell ahead is the one taken at once, and the rest is the same end-of-frame. -/
theorem twoPointsMakeAWhole : Obligations.TwoPointsMakeAWhole := by
  intro c s t frame noBoundary h
  obtain ⟨f, hf⟩ := Option.isSome_iff_exists.mp frame
  obtain ⟨effect, points⟩ := exec_atPoint hf
  rw [points] at h
  cases h
  rw [points, points]
  cases powered : s.powered
  · simp only [whenPowered_off s _ powered]
  · rw [whenPowered_eq s _ powered, whenPowered_eq s _ powered, whenPowered_eq]
    · simp only [receive, reachAck_eq noBoundary true]
    · simp [receive, powered]

end Sys2Proof.Proofs

/-! ## Reset, start-up, supply -/

namespace Sys2Proof.Machine

/-! ### A STORE abandoned or completed -/

@[simp] theorem abandonStore_job (s : State) : (abandonStore s).settings.job = none := by
  unfold abandonStore
  split
  · rfl
  · assumption

theorem abandonStore_idle {s : State} (h : s.settings.job = none) : (abandonStore s).settings = s.settings := by
  simp [abandonStore, h]

theorem abandonStore_busy {s : State} (h : s.settings.job ≠ none) : (abandonStore s).settings.nv.holds = false := by
  obtain ⟨j, busy⟩ := Option.ne_none_iff_exists'.mp h
  simp [abandonStore, busy, tornCopy_not_holds]

theorem dropEvicted_reports_eq (s : State) :
    (dropEvicted s).reports = if (evictedKey s).isSome then s.reports.tail else s.reports := by
  rw [dropEvicted_eq, evictedKey_eq]
  cases s.judgeInFlight with
  | none => rfl
  | some j => cases evicted : j.evicted <;> simp [evicted]

theorem copyOf_holds (c : Settings) : (copyOf c).holds = true := by simp [copyOf, NvCopy.holds]

/-- A field that fits its 16 bits is read back within its range. -/
theorem min_toNat_ofNat {x limit : Nat} (range : x ≤ limit) (fits : limit < 65536) :
    min limit (BitVec.ofNat 16 x).toNat = x := by
  rw [BitVec.toNat_ofNat, Nat.mod_eq_of_lt (by omega)]
  omega

theorem clamp_toInt_ofInt {x : Int} (low : -400 ≤ x) (high : x ≤ 400) :
    max (-400) (min 400 (BitVec.ofInt 16 x).toInt) = x := by
  rw [BitVec.toInt_ofInt, Int.bmod_eq_of_le (by omega) (by omega)]
  omega

/-- The copy of settings in their ranges loads as those settings (R126, R128). -/
theorem copyOf_settings {c : Settings} (h : c.sound = true) : (copyOf c).settings = c := by
  obtain ⟨press, release, zoneSet, low, high, idle, pressed⟩ := c.sound_iff.mp h
  simp only [colourSound, Quad.all, Bool.and_eq_true, decide_eq_true_eq] at idle pressed
  obtain ⟨⟨⟨i0, i1⟩, i2⟩, i3⟩ := idle
  obtain ⟨⟨⟨p0, p1⟩, p2⟩, p3⟩ := pressed
  have field (id : Nat) (known : id < 12) : (copyOf c).fields.getD id 0 = c.field id := by
    simp [copyOf, fieldIds, List.getD_eq_getElem?_getD, known]
  rw [NvCopy.settings_eq]
  simp only [field, Settings.field, Nat.reduceLT, min_toNat_ofNat press, min_toNat_ofNat release, min_toNat_ofNat zoneSet,
    clamp_toInt_ofInt low high, min_toNat_ofNat i0, min_toNat_ofNat i1, min_toNat_ofNat i2, min_toNat_ofNat i3,
    min_toNat_ofNat p0, min_toNat_ofNat p1, min_toNat_ofNat p2, min_toNat_ofNat p3]

end Sys2Proof.Machine

namespace Sys2Proof.Proofs

open Sys2Proof.Machine

/-- Settles O6, by evaluation of the reset state. -/
theorem resetValues : Obligations.ResetValues := by
  refine ⟨⟨rfl, rfl, rfl, rfl, rfl, rfl, rfl, rfl, rfl, rfl, rfl, ?_, rfl, rfl, ?_⟩, ?_⟩ <;> decide

/-- Settles O7: a reset and the loss of power both end a STORE as `abandonStore` does. -/
theorem resetAndPowerLoss : Obligations.ResetAndPowerLoss := by
  refine ⟨fun p s => ⟨resetStation p s, rfl, ?_, ?_, ?_, ?_, ?_⟩, fun s powered => ⟨losePower s, ?_, ?_, ?_⟩⟩
  · exact State.blocks_ext rfl rfl rfl rfl rfl rfl rfl rfl rfl rfl rfl rfl rfl rfl (by simp)
  · exact abandonStore_job s
  · exact abandonStore_working s
  · exact abandonStore_idle
  · exact abandonStore_busy
  · exact congrArg _ (whenPowered_eq s _ powered)
  · refine State.blocks_ext rfl ?_ ?_ rfl ?_ ?_ ?_ ?_ ?_ ?_ ?_ rfl rfl rfl ?_ <;>
      simp [losePower_queue, dropEvicted_reports_eq]
  · have dark (i : Fin 4) : ((losePower s).lamp.channels.get i).duty = 0 := by simp [losePower, LampUnit.dark]
    rw [losePower_line, losePower_settings]
    exact ⟨rfl, rfl, rfl, rfl, dark, abandonStore_job s, abandonStore_idle, abandonStore_busy⟩

/-- Settles O8. -/
theorem settingsLoaded : Obligations.SettingsLoaded := by
  intro s powered startup unloaded
  refine ⟨loadSettings s, ?_, rfl, rfl, fun holds => ?_, fun torn => ?_, rfl, fun i => ?_, rfl⟩
  · simp [exec, execSettingsLoad, whenPowered_eq s _ powered, startup, State.loaded, unloaded]
  · simp only [loadSettings_settings, loadedSettings, holds, if_true, NvCopy.settings_eq]
  · simp only [loadSettings_settings, loadedSettings, torn]
    rfl
  · have flag (n : Nat) : (zoneFlags n).get i = n.testBit i.val := by
      match i with
      | 0 | 1 | 2 | 3 => rfl
    simp only [loadSettings_sense, loadSettings_settings, Quad.get_zip, loadedZone, flag]
    rfl

/-- Settles O9: what a completed STORE keeps loads as the settings it began with, since they stood in their ranges. -/
theorem storeCompletes : Obligations.StoreCompletes := by
  intro s j powered busy sound
  refine ⟨completeStore s, congrArg _ (whenPowered_eq s _ powered), ?_⟩
  simp only [completeStore, busy]
  exact ⟨rfl, rfl, rfl, rfl, copyOf_holds _, copyOf_settings sound⟩

/-- Settles O10. -/
theorem startupEnds : Obligations.StartupEnds := by
  intro s powered startup sampled
  have ended : s.startupOver = true := by simp [State.startupOver, startup, startupSamples, sampled]
  have ends : exec .startupEnd s = .next (endStartup s) := by
    simp only [exec, execStartupEnd, whenPowered_eq s _ powered, ended, if_true]
  refine ⟨fun panel => ?_, fun panel => ⟨enterFault .strap s, ?_, rfl, rfl, rfl, rfl, rfl⟩⟩
  · rw [ends, endStartup, if_pos panel]
    rfl
  · rw [ends, endStartup, if_neg (by omega)]

end Sys2Proof.Proofs

/-! ## Sensing -/

namespace Sys2Proof.Machine

variable {raws : Quad (BitVec 12)} {s : State}

/-! ### The zones -/

/-- Stage 1 of a sample at a zone, in the statements' words. -/
theorem ZoneRecord.takeReading_eq (r : Nat) (z : ZoneRecord) : z.takeReading r = z.afterStage1 r := by
  have rail : atRail r = true ↔ r = 0 ∨ r = 4095 := by simp [atRail]
  obtain ⟨raw, baseline, condition, railCount, insideCount⟩ := z
  cases condition with
  | healthy =>
    by_cases h : r = 0 ∨ r = 4095
    · simp [takeReading, reachFault, afterStage1, zoneCount, h, rail]
    · simp [takeReading, reachFault, afterStage1, zoneCount, h, rail]
  | faulty =>
    by_cases h : r = 0 ∨ r = 4095
    · simp [takeReading, reachRecovery, afterStage1, zoneCount, h, rail]
    · simp [takeReading, reachRecovery, afterStage1, zoneCount, h, rail]
  | off => rfl

theorem ZoneRecord.track_eq (z : ZoneRecord) : z.track = z.afterTracking := by
  obtain ⟨raw, baseline, condition, railCount, insideCount⟩ := z
  cases condition with
  | healthy =>
    simp only [track, afterTracking, if_true]
    split
    · rfl
    · split <;> rfl
  | faulty | off => rfl

theorem ZoneRecord.contribution_eq (z : ZoneRecord) :
    z.contribution = if z.condition = .healthy then z.raw - z.baseline else 0 := by
  cases h : z.condition <;> simp [contribution, h]

/-! ### Stages 1 and 2 -/

/-- The zones after stage 1. -/
def State.zonesRead (raws : Quad (BitVec 12)) (s : State) : Quad ZoneRecord :=
  Quad.zip (fun r z => ZoneRecord.takeReading r.toNat z) raws s.sense.zones

@[simp] theorem State.get_zonesRead (raws : Quad (BitVec 12)) (s : State) (i : Fin 4) :
    (s.zonesRead raws).get i = (s.sense.zones.get i).afterStage1 (raws.get i).toNat := by
  simp [zonesRead, ZoneRecord.takeReading_eq]

theorem loadOf_eq (zones : Quad ZoneRecord) : loadOf zones =
    (zones.get 0).contribution + (zones.get 1).contribution + (zones.get 2).contribution + (zones.get 3).contribution := rfl

/-- The load stage 2 finds, in the statements' words (R7). -/
theorem loadOf_zonesRead (raws : Quad (BitVec 12)) (s : State) : loadOf (s.zonesRead raws) = loadAfterStage1 raws s := by
  simp only [loadOf_eq, State.get_zonesRead, ZoneRecord.contribution_eq, loadAfterStage1]

/-- Stages 1 and 2 of every sample but the first (R8). -/
theorem readZones_later (later : s.sense.samples ≠ 0) : readZones raws s = s.setSense { s.sense with
    zones := s.zonesRead raws, load := loadAfterStage1 raws s, sampleTimer := some 0 } := by
  rw [← loadOf_zonesRead]
  simp only [readZones, later, if_false]
  rfl

theorem loadOf_rebased (zones : Quad ZoneRecord) : loadOf (zones.map ZoneRecord.rebase) = 0 := by
  simp [loadOf_eq, ZoneRecord.contribution_eq, ZoneRecord.rebase]

/-- Stages 1 and 2 of the first sample: every baseline at its reading, so the load is 0 (R8). -/
theorem readZones_first (first : s.sense.samples = 0) : readZones raws s = s.setSense { s.sense with
    zones := (s.zonesRead raws).map ZoneRecord.rebase, load := 0, sampleTimer := some 0 } := by
  simp only [readZones, first, if_true, loadOf_rebased]
  rfl

/-! ### Stage 4 and the whole sample -/

/-- Stage 4 by the detector (R9). -/
theorem baselineStage_eq (s : State) : baselineStage s = s.setSense { s.sense with
    drift := if s.sense.detector = .released then if 15 ≤ s.sense.drift then 0 else s.sense.drift + 1 else 0
    zones := if s.sense.detector = .released ∧ 15 ≤ s.sense.drift then s.sense.zones.map ZoneRecord.track
      else s.sense.zones } := by
  unfold baselineStage
  split
  · rename_i released
    by_cases full : 15 ≤ s.sense.drift
    · simp [released, State.driftFull, full, trackBaselines]
    · simp [released, State.driftFull, full]
  · rename_i h
    have moved : s.sense.detector ≠ .released := h
    simp [moved]

/-- The Sense Unit after a later sample, but for the detector: stages 1, 2 and 4 around the detector stage 3 leaves (R2). -/
theorem takeSample_sense (later : s.sense.samples ≠ 0) : (takeSample raws s).sense =
    let d := (sampleDetected raws s).sense.detector
    { zones := if d = .released ∧ 15 ≤ s.sense.drift then (s.zonesRead raws).map ZoneRecord.track else s.zonesRead raws
      detector := d
      load := loadAfterStage1 raws s
      drift := if d = .released then if 15 ≤ s.sense.drift then 0 else s.sense.drift + 1 else 0
      sampleTimer := some 0
      samples := min 32 (s.sense.samples + 1) } := by
  have detected : (sampleDetected raws s).sense =
      { (readZones raws s).sense with detector := (sampleDetected raws s).sense.detector } := by
    unfold sampleDetected
    split
    · rfl
    · exact detect_sense _
  rw [readZones_later later] at detected
  simp only [takeSample, later, if_false, countSample, baselineStage_eq, State.setSense_sense, startupSamples]
  rw [detected]
  rfl

/-- A sample changes, past what its press or release does, the Sense Unit only. -/
theorem takeSample_eq (raws : Quad (BitVec 12)) (s : State) :
    takeSample raws s = { sampleDetected raws s with sense := (takeSample raws s).sense } := by
  simp only [takeSample, countSample, baselineStage_eq]
  split <;> rfl

/-! ### SAMPLE and the commands that are a sample -/

theorem beforeSample_eq (h : s.station.state = .startup → s.sense.samples < 32) : beforeSample s = s := by
  unfold beforeSample
  rw [if_neg]
  simp only [State.startupOver, Bool.and_eq_true, decide_eq_true_eq, startupSamples]
  rintro ⟨startup, sampled⟩
  exact absurd (h startup) (Nat.not_lt.mpr (of_decide_eq_true sampled))

theorem exec_sample (powered : s.powered = true) (loaded : s.sense.sampleTimer.isSome = true)
    (h : s.station.state = .startup → s.sense.samples < 32) : exec (.sample raws) s = .next (takeSample raws s) := by
  simp [exec, execSample, whenPowered_eq s _ powered, sampleBringing, State.loaded, loaded, beforeSample_eq h]

/-- A sample whose readings are those the zones hold. -/
theorem readings_eq (held : ∀ i : Fin 4, (raws.get i).toNat = (s.sense.zones.get i).raw) : s.readings = raws := by
  refine Quad.ext_get fun i => ?_
  simp [State.readings, ← held i]

/-- A command that is the sample on the readings held, where that sample brings its event. -/
theorem heldSample_eq {event : Quad (BitVec 12) → State → Bool} (loaded : s.sense.sampleTimer.isSome = true)
    (h : s.station.state = .startup → s.sense.samples < 32)
    (held : ∀ i : Fin 4, (raws.get i).toNat = (s.sense.zones.get i).raw) :
    heldSampleBringing event s = if event raws s = true then takeSample raws s else s := by
  simp [heldSampleBringing, sampleBringing, readings_eq held, State.loaded, loaded, beforeSample_eq h]

end Sys2Proof.Machine

namespace Sys2Proof.Proofs

open Sys2Proof.Machine

/-- Settles O11. -/
theorem sampleReadsZones : Obligations.SampleReadsZones := by
  intro raws s powered loaded later startup
  refine ⟨takeSample raws s, exec_sample powered loaded startup, ?_⟩
  rw [takeSample_sense later]
  refine ⟨fun i => ?_, rfl, rfl, rfl, rfl, by simp⟩
  dsimp only
  split
  · rw [Quad.get_map, State.get_zonesRead, ZoneRecord.track_eq]
  · rw [State.get_zonesRead]

/-- Settles O12: in STARTUP a sample is `readZones`, with stage 4 from the second on. -/
theorem sampleInStartup : Obligations.SampleInStartup := by
  intro raws s powered loaded startup below
  have detected : sampleDetected raws s = readZones raws s := by rw [sampleDetected, if_pos startup]
  have count : min 32 (s.sense.samples + 1) = s.sense.samples + 1 := by omega
  refine ⟨takeSample raws s, exec_sample powered loaded fun _ => below, ?_, ?_⟩
  · rw [takeSample_eq, detected]
    rfl
  · by_cases first : s.sense.samples = 0
    · have taken : (takeSample raws s).sense = { s.sense with
          zones := (s.zonesRead raws).map ZoneRecord.rebase, load := 0, sampleTimer := some 0,
          samples := s.sense.samples + 1 } := by
        simp only [takeSample, first, if_true, countSample, detected, readZones_first first, State.setSense_sense]
        rfl
      rw [taken]
      refine ⟨rfl, rfl, rfl, fun _ => ⟨rfl, rfl, fun i => ?_⟩, fun later => absurd first later⟩
      have raw : ((s.sense.zones.get i).afterStage1 (raws.get i).toNat).raw = (raws.get i).toNat := by
        unfold ZoneRecord.afterStage1
        dsimp only
        (repeat' split) <;> rfl
      simp only [Quad.get_map, State.get_zonesRead, ZoneRecord.rebase, raw]
    · have detector : (sampleDetected raws s).sense.detector = s.sense.detector := by
        rw [detected, readZones_detector]
      rw [takeSample_sense first, detector]
      refine ⟨rfl, count, rfl, fun zero => absurd zero first, fun _ released => ⟨rfl, fun few => ?_, fun full => ?_⟩⟩
      · have notFull : ¬15 ≤ s.sense.drift := Nat.not_le.mpr few
        simp [released, notFull]
      · simp [released, full, ZoneRecord.track_eq]

end Sys2Proof.Proofs

/-! ## The step detector, and the press or release it hands on -/

namespace Sys2Proof.Machine

variable {raws : Quad (BitVec 12)} {s : State}

/-! ### Telling the Chord Table touches the table, the list and the line only -/

/-- A change of the station that neither reads nor writes what an eviction writes. -/
structure LeavesTable (change : State → State) : Prop where
  chords : ∀ s, (change s).chords = s.chords
  reports : ∀ s, (change s).reports = s.reports
  line : ∀ s, (change s).line = s.line
  setChords : ∀ s x, (change s).setChords x = change (s.setChords x)
  setReports : ∀ s x, (change s).setReports x = change (s.setReports x)
  setLine : ∀ s x, (change s).setLine x = change (s.setLine x)

theorem leavesTable_setSense (x : SenseUnit) : LeavesTable (·.setSense x) :=
  ⟨fun _ => rfl, fun _ => rfl, fun _ => rfl, fun _ _ => rfl, fun _ _ => rfl, fun _ _ => rfl⟩

theorem leavesTable_updateEntry (due : Nat) (f : NoteEntry → NoteEntry) : LeavesTable (updateEntry due f) :=
  ⟨fun _ => rfl, fun _ => rfl, fun _ => rfl, fun _ _ => rfl, fun _ _ => rfl, fun _ _ => rfl⟩

section
variable {change : State → State} (h : LeavesTable change)
include h

theorem LeavesTable.findRecord (key : Nat) (s : State) : findRecord key (change s) = findRecord key s := by
  simp only [Machine.findRecord, h.chords]

theorem LeavesTable.removeRecord (key : Nat) (s : State) : removeRecord key (change s) = change (removeRecord key s) := by
  simp only [Machine.removeRecord, h.chords, h.setChords]

theorem LeavesTable.evict (key : Nat) (s : State) : evict key (change s) = change (evict key s) := by
  have flying : forcedInFlight key (change s) = forcedInFlight key s := by simp only [forcedInFlight, h.line]
  cases found : Machine.findRecord key s with
  | none => simp only [Machine.evict, h.findRecord, found]
  | some r =>
    simp only [Machine.evict, h.findRecord, found, flying, h.removeRecord]
    split
    · split
      · simp only [condemnInFlight, h.line, h.setLine]
      · simp only [removeForced, h.reports, h.setReports]
    · rfl

theorem LeavesTable.makeRoom (s : State) : makeRoom (change s) = change (makeRoom s) := by
  simp only [Machine.makeRoom, h.chords]
  split
  · split
    · exact h.evict _ s
    · rfl
  · rfl

theorem LeavesTable.tellChord (e : NoteEntry) (g : Grade) (s : State) :
    tellChord e g (change s) = change (tellChord e g s) := by
  simp only [Machine.tellChord, h.findRecord, h.makeRoom]
  split
  · rfl
  · split
    · simp only [updateRecord, h.chords, h.setChords]
    · simp only [addRecord, h.chords, h.setChords]

end

/-! ### What a press or release does takes no part of the Sense Unit -/

section
variable (x : SenseUnit)

theorem resolveTap_setSense (e : NoteEntry) (h : HeadResult) (s : State) :
    resolveTap e h (s.setSense x) = (resolveTap e h s).setSense x := by
  have told (f : NoteEntry → NoteEntry) := (leavesTable_setSense x).tellChord e h.grade (updateEntry e.due f s)
  exact congrArg (fun t => signalFlash _ (addItem .tap e.due t)) (told _)

theorem startHold_setSense (e : NoteEntry) (h : HeadResult) (s : State) :
    startHold e h (s.setSense x) = (startHold e h s).setSense x := by
  have told (f : NoteEntry → NoteEntry) := (leavesTable_setSense x).tellChord e h.grade (updateEntry e.due f s)
  exact congrArg (fun t => signalFlash _ (addItem .head e.due t)) (told _)

theorem matchPress_setSense (e : NoteEntry) (time : Nat) (s : State) :
    matchPress e time (s.setSense x) = (matchPress e time s).setSense x := by
  unfold matchPress
  split
  · exact resolveTap_setSense x _ _ s
  · have adj : (s.setSense x).adjClock = s.adjClock := rfl
    simp only [strikeHold, adj, startHold_setSense, State.setSense_judge]
    split <;> rfl

theorem emitPress_setSense (k : Nat) (s : State) : emitPress k (s.setSense x) = (emitPress k s).setSense x := by
  by_cases judges : s.station.state.judges = true
  · simp only [emitPress, State.setSense_station, judges, if_true]
    have slipping : findSlipping (s.setSense x) = findSlipping s := rfl
    have candidate (time : Nat) : findCandidate time (s.setSense x) = findCandidate time s := rfl
    have adj : (s.setSense x).adjust k = s.adjust k := rfl
    simp only [judgePress, slipping, candidate, adj, matchPress_setSense]
    (repeat' split) <;> rfl
  · simp [emitPress, judges]

theorem emitRelease_setSense (k : Nat) (s : State) : emitRelease k (s.setSense x) = (emitRelease k s).setSense x := by
  by_cases judges : s.station.state.judges = true
  · simp only [emitRelease, State.setSense_station, judges, if_true]
    have adj : (s.setSense x).adjust k = s.adjust k ∧ (s.setSense x).adjClock = s.adjClock := ⟨rfl, rfl⟩
    simp only [judgeRelease, adj, State.setSense_queue, State.setSense_judge]
    (repeat' split) <;> rfl
  · simp [emitRelease, judges]

end

/-! ### Stage 3 -/

/-- The second sample at or above the press threshold (R12). -/
def State.pressConfirmed (raws : Quad (BitVec 12)) (s : State) : Prop :=
  (∃ k, s.sense.detector = .pressing k) ∧ s.settings.working.effectivePress ≤ loadAfterStage1 raws s

/-- The third sample below the release threshold (R13). -/
def State.releaseConfirmed (raws : Quad (BitVec 12)) (s : State) : Prop :=
  (∃ k, s.sense.detector = .releasing k .two) ∧ loadAfterStage1 raws s < s.settings.working.effectiveRelease

/-- The detector stage 3 leaves (R12, R13). -/
def State.detectorMoved (raws : Quad (BitVec 12)) (s : State) : Detector :=
  let presses := s.settings.working.effectivePress ≤ loadAfterStage1 raws s
  let releases := loadAfterStage1 raws s < s.settings.working.effectiveRelease
  match s.sense.detector with
  | .released => if presses then .pressing s.clock.tick else .released
  | .pressing _ => if presses then .pressed else .released
  | .pressed => if releases then .releasing s.clock.tick .one else .pressed
  | .releasing k .one => if releases then .releasing k .two else .pressed
  | .releasing _ .two => if releases then .released else .pressed

/-- What stage 3 hands on: a press, a release, or nothing. -/
inductive State.HandedOn (raws : Quad (BitVec 12)) (s : State) : State → Prop
  | press (k : Nat) (pressing : s.sense.detector = .pressing k)
      (presses : s.settings.working.effectivePress ≤ loadAfterStage1 raws s) : HandedOn raws s (emitPress k s)
  | release (k : Nat) (releasing : s.sense.detector = .releasing k .two)
      (releases : loadAfterStage1 raws s < s.settings.working.effectiveRelease) : HandedOn raws s (emitRelease k s)
  | nothing (noPress : ¬s.pressConfirmed raws) (noRelease : ¬s.releaseConfirmed raws) : HandedOn raws s s

/-- Stage 3 of a later sample outside STARTUP: the detector moves, and what it completes is handed on (R12, R13, R15). -/
theorem sampleDetected_moves (working : s.station.state ≠ .startup) (later : s.sense.samples ≠ 0) :
    (sampleDetected raws s).sense.detector = s.detectorMoved raws ∧
      ∃ u, s.HandedOn raws u ∧ ∃ x, sampleDetected raws s = u.setSense x := by
  rw [sampleDetected, if_neg working, readZones_later later]
  generalize read : s.setSense _ = r
  have detector : r.sense.detector = s.sense.detector := by rw [← read]; rfl
  have presses : r.loadPresses = decide (s.settings.working.effectivePress ≤ loadAfterStage1 raws s) := by rw [← read]; rfl
  have releases : r.loadReleases = decide (loadAfterStage1 raws s < s.settings.working.effectiveRelease) := by
    rw [← read]; rfl
  have quiet (noPress : ¬s.pressConfirmed raws) (noRelease : ¬s.releaseConfirmed raws) (d : Detector) :
      ∃ u, s.HandedOn raws u ∧ ∃ x, setDetector d r = u.setSense x := ⟨s, .nothing noPress noRelease, _, by rw [← read]; rfl⟩
  have still (noPress : ¬s.pressConfirmed raws) (noRelease : ¬s.releaseConfirmed raws) :
      ∃ u, s.HandedOn raws u ∧ ∃ x, r = u.setSense x := ⟨s, .nothing noPress noRelease, _, by rw [← read]⟩
  unfold detect State.detectorMoved
  simp only [detector, presses, releases, decide_eq_true_eq]
  cases now : s.sense.detector with
  | released =>
    have noPress : ¬s.pressConfirmed raws := by simp [State.pressConfirmed, now]
    have noRelease : ¬s.releaseConfirmed raws := by simp [State.releaseConfirmed, now]
    dsimp only
    split
    · exact ⟨by rw [← read]; rfl, quiet noPress noRelease _⟩
    · exact ⟨by rw [detector, now], still noPress noRelease⟩
  | pressing k =>
    have noRelease : ¬s.releaseConfirmed raws := by simp [State.releaseConfirmed, now]
    dsimp only
    split
    · rename_i high
      have confirmed : confirmPress r = emitPress k (setDetector .pressed r) := by simp [confirmPress, detector, now]
      rw [confirmed]
      refine ⟨by simp [setDetector], emitPress k s, .press k now high, ?_⟩
      rw [← read, setDetector, emitPress_setSense, emitPress_setSense]
      exact ⟨_, rfl⟩
    · rename_i low
      exact ⟨by rw [← read]; rfl, quiet (fun h => low h.2) noRelease _⟩
  | pressed =>
    have noPress : ¬s.pressConfirmed raws := by simp [State.pressConfirmed, now]
    have noRelease : ¬s.releaseConfirmed raws := by simp [State.releaseConfirmed, now]
    dsimp only
    split
    · exact ⟨by rw [← read]; rfl, quiet noPress noRelease _⟩
    · exact ⟨by rw [detector, now], still noPress noRelease⟩
  | releasing k low =>
    have noPress : ¬s.pressConfirmed raws := by simp [State.pressConfirmed, now]
    cases low with
    | one =>
      have noRelease : ¬s.releaseConfirmed raws := by simp [State.releaseConfirmed, now]
      dsimp only
      split <;> exact ⟨by rw [← read]; rfl, quiet noPress noRelease _⟩
    | two =>
      dsimp only
      split
      · rename_i low
        have confirmed : confirmRelease r = emitRelease k (setDetector .released r) := by
          simp [confirmRelease, detector, now]
        rw [confirmed]
        refine ⟨by simp [setDetector], emitRelease k s, .release k now low, ?_⟩
        rw [← read, setDetector, emitRelease_setSense, emitRelease_setSense]
        exact ⟨_, rfl⟩
      · rename_i high
        exact ⟨by rw [← read]; rfl, quiet noPress (fun h => high h.2) _⟩

/-- A later sample outside STARTUP: what stage 3 hands on, with the Sense Unit moved. -/
theorem takeSample_handsOn (working : s.station.state ≠ .startup) (later : s.sense.samples ≠ 0) :
    ∃ u, s.HandedOn raws u ∧ takeSample raws s = { u with sense := (takeSample raws s).sense } := by
  obtain ⟨-, u, handed, x, moved⟩ := sampleDetected_moves (raws := raws) working later
  refine ⟨u, handed, ?_⟩
  rw [takeSample_eq, moved]
  rfl

/-- PRESS is the sample that confirms a press (notes/assumptions/3.md). -/
theorem exec_press (powered : s.powered = true) (loaded : s.sense.sampleTimer.isSome = true)
    (working : s.station.state ≠ .startup) (later : s.sense.samples ≠ 0)
    (held : ∀ i : Fin 4, (raws.get i).toNat = (s.sense.zones.get i).raw) :
    (s.pressConfirmed raws → exec .press s = .next (takeSample raws s)) ∧
      (¬s.pressConfirmed raws → exec .press s = .next s) := by
  have confirms : confirmsPress raws s = true ↔ s.pressConfirmed raws := by
    unfold confirmsPress State.pressConfirmed
    cases now : s.sense.detector <;>
      simp [working, readZones_later later, State.loadPresses]
  have exec_eq : exec .press s = .next (if confirmsPress raws s = true then takeSample raws s else s) := by
    rw [← heldSample_eq (event := confirmsPress) loaded (fun h => absurd h working) held]
    exact congrArg _ (whenPowered_eq s _ powered)
  rw [exec_eq]
  exact ⟨fun h => by rw [if_pos (confirms.mpr h)], fun h => by rw [if_neg (mt confirms.mp h)]⟩

/-- RELEASE is the sample that confirms a release (notes/assumptions/3.md). -/
theorem exec_release (powered : s.powered = true) (loaded : s.sense.sampleTimer.isSome = true)
    (working : s.station.state ≠ .startup) (later : s.sense.samples ≠ 0)
    (held : ∀ i : Fin 4, (raws.get i).toNat = (s.sense.zones.get i).raw) :
    (s.releaseConfirmed raws → exec .release s = .next (takeSample raws s)) ∧
      (¬s.releaseConfirmed raws → exec .release s = .next s) := by
  have confirms : confirmsRelease raws s = true ↔ s.releaseConfirmed raws := by
    unfold confirmsRelease State.releaseConfirmed
    cases now : s.sense.detector with
    | releasing k low => cases low <;> simp [working, readZones_later later, State.loadReleases]
    | _ => simp
  have exec_eq : exec .release s = .next (if confirmsRelease raws s = true then takeSample raws s else s) := by
    rw [← heldSample_eq (event := confirmsRelease) loaded (fun h => absurd h working) held]
    exact congrArg _ (whenPowered_eq s _ powered)
  rw [exec_eq]
  exact ⟨fun h => by rw [if_pos (confirms.mpr h)], fun h => by rw [if_neg (mt confirms.mp h)]⟩

end Sys2Proof.Machine

namespace Sys2Proof.Proofs

open Sys2Proof.Machine

/-- Settles O13: the detector left is `State.detectorMoved`, and what is handed on is `State.HandedOn`. -/
theorem sampleMovesDetector : Obligations.SampleMovesDetector := by
  intro raws s powered loaded working later
  obtain ⟨u, handed, taken⟩ := takeSample_handsOn (raws := raws) working later
  have moved := (sampleDetected_moves (raws := raws) working later).1
  have detector : (takeSample raws s).sense.detector = s.detectorMoved raws := by rw [takeSample_sense later, ← moved]
  have load : (takeSample raws s).sense.load = loadAfterStage1 raws s := by rw [takeSample_sense later]
  have drift : (takeSample raws s).sense.drift =
      if (takeSample raws s).sense.detector = .released then if 15 ≤ s.sense.drift then 0 else s.sense.drift + 1
      else 0 := by rw [takeSample_sense later]
  refine ⟨takeSample raws s, exec_sample powered loaded fun h => absurd h working, ?_, fun h => by rw [drift, if_neg h],
    fun h => by rw [drift, if_pos h]⟩
  have press : ∀ k, s.sense.detector = .pressing k → s.settings.working.effectivePress ≤ loadAfterStage1 raws s →
      takeSample raws s = { emitPress k s with sense := (takeSample raws s).sense } := by
    intro k now high
    cases handed with
    | press k' now' => cases now.symm.trans now'; exact taken
    | release k' now' => cases now.symm.trans now'
    | nothing noPress => exact absurd ⟨⟨k, now⟩, high⟩ noPress
  have release : ∀ k, s.sense.detector = .releasing k .two →
      loadAfterStage1 raws s < s.settings.working.effectiveRelease →
      takeSample raws s = { emitRelease k s with sense := (takeSample raws s).sense } := by
    intro k now low
    cases handed with
    | press k' now' => cases now.symm.trans now'
    | release k' now' => cases now.symm.trans now'; exact taken
    | nothing _ noRelease => exact absurd ⟨⟨k, now⟩, low⟩ noRelease
  have nothing : ¬s.pressConfirmed raws → ¬s.releaseConfirmed raws →
      takeSample raws s = { s with sense := (takeSample raws s).sense } := by
    intro noPress noRelease
    cases handed with
    | press k now high => exact absurd ⟨⟨k, now⟩, high⟩ noPress
    | release k now low => exact absurd ⟨⟨k, now⟩, low⟩ noRelease
    | nothing => exact taken
  have commands : (∀ i : Fin 4, (raws.get i).toNat = (s.sense.zones.get i).raw) →
      (s.pressConfirmed raws → exec .press s = .next (takeSample raws s)) ∧
      (¬s.pressConfirmed raws → exec .press s = .next s) ∧
      (s.releaseConfirmed raws → exec .release s = .next (takeSample raws s)) ∧
      (¬s.releaseConfirmed raws → exec .release s = .next s) := by
    intro held
    obtain ⟨pressed, notPressed⟩ := exec_press powered loaded working later held
    exact ⟨pressed, notPressed, exec_release powered loaded working later held⟩
  rw [load, detector, State.detectorMoved]
  refine ⟨fun now high => ?_, fun now low => ?_, fun k now high => ⟨?_, press k now high⟩, fun k now low => ?_,
    fun now high => ?_, fun now low => ?_, fun k n now high => ?_, fun k now low => ?_,
    fun k now low => ⟨?_, release k now low⟩, nothing, commands⟩
  · rw [now]; exact if_pos high
  · rw [now]; exact if_neg (Nat.not_le.mpr low)
  · rw [now]; exact if_pos high
  · rw [now]; exact if_neg (Nat.not_le.mpr low)
  · rw [now]; exact if_neg (Nat.not_lt.mpr high)
  · rw [now]; exact if_pos low
  · cases n <;> rw [now] <;> exact if_neg (Nat.not_lt.mpr high)
  · rw [now]; exact if_pos low
  · rw [now]; exact if_pos low

/-- Settles O14: the zone's events are its record's alone, and BASELINE_TRACKING is the sample of a RELEASED detector. -/
theorem zoneEvents : Obligations.ZoneEvents := by
  refine ⟨fun i s powered healthy full =>
      ⟨s.setSense { s.sense with zones := s.sense.zones.modify i ZoneRecord.reachFault },
        by simp only [exec, execZoneFault, whenPowered_eq s _ powered], rfl, ?_, fun k other => ?_⟩,
    fun i s powered faulty full =>
      ⟨s.setSense { s.sense with zones := s.sense.zones.modify i ZoneRecord.reachRecovery },
        by simp only [exec, execZoneRecovery, whenPowered_eq s _ powered], rfl, ?_, fun k other => ?_⟩,
    fun raws s powered loaded later released startup low => ?_⟩
  · simp [Quad.get_modify, ZoneRecord.reachFault, healthy, zoneCount, full]
  · simp [Quad.get_modify, other]
  · simp [Quad.get_modify, ZoneRecord.reachRecovery, faulty, zoneCount, full]
  · simp [Quad.get_modify, other]
  · have stays : (sampleDetected raws s).sense.detector = .released ∧ ∃ x, sampleDetected raws s = s.setSense x := by
      by_cases working : s.station.state = .startup
      · rw [sampleDetected, if_pos working, readZones_later later]
        exact ⟨released, _, rfl⟩
      · obtain ⟨moved, u, handed, x, eq⟩ := sampleDetected_moves (raws := raws) working later
        have notHigh : ¬s.settings.working.effectivePress ≤ loadAfterStage1 raws s := Nat.not_le.mpr (low working)
        refine ⟨by simp [moved, State.detectorMoved, released, notHigh], x, ?_⟩
        cases handed with
        | press k now => cases released.symm.trans now
        | release k now => cases released.symm.trans now
        | nothing => exact eq
    obtain ⟨detector, x, same⟩ := stays
    have tracks : exec .baselineTracking s = .next (heldSampleBringing movesBaselines s) :=
      congrArg _ (whenPowered_eq s _ powered)
    have moves : movesBaselines raws s = decide (15 ≤ s.sense.drift) := by
      simp [movesBaselines, later, detector, State.driftFull]
    refine ⟨fun full => ⟨takeSample raws s, exec_sample powered loaded startup, fun held => ?_, ?_, fun i => ?_⟩,
      fun few held => ?_⟩
    · rw [tracks, heldSample_eq loaded startup held, moves, if_pos (by simpa using full)]
    · rw [takeSample_eq, same, takeSample_sense later, detector]
      simp [full, released]
    · rw [takeSample_sense later, detector]
      simp [full, ZoneRecord.track_eq]
    · rw [tracks, heldSample_eq loaded startup held, moves, if_neg (by simpa using few)]

end Sys2Proof.Proofs

/-! ## Presses, releases and lapses -/

namespace Sys2Proof.Machine

variable {raws : Quad (BitVec 12)} {s : State}

/-! ### A judged entry, with its items and its flash -/

/-- The entry of a due changed, items behind the report list, and a flash: what judging does past the Chord Table (R70). -/
def State.judgedAs (s : State) (due : Nat) (change : NoteEntry → NoteEntry) (items : List ReportItem) (shown : JudgeResult) :
    State :=
  { s with
    queue := { s.queue with entries := s.queue.entries.map fun x => if x.due = due then change x else x }
    reports := s.reports ++ items
    lamp := { s.lamp with flash := some ⟨flashColour shown, 16, 0⟩ } }

theorem resolveTap_eq (e : NoteEntry) (h : HeadResult) (s : State) : resolveTap e h s =
    (tellChord e h.grade s).judgedAs e.due (fun x => { x with state := .judged, head := some h }) [⟨.tap, e.due⟩]
      (.grade h.grade) := by
  simp only [resolveTap, (leavesTable_updateEntry e.due _).tellChord]
  rfl

theorem startHold_eq (e : NoteEntry) (h : HeadResult) (s : State) : startHold e h s =
    (tellChord e h.grade s).judgedAs e.due (fun x => { x with state := .holding, head := some h, headSent := false })
      [⟨.head, e.due⟩] (.grade h.grade) := by
  simp only [startHold, (leavesTable_updateEntry e.due _).tellChord]
  rfl

theorem lapseHold_eq (e : NoteEntry) (s : State) : lapseHold e s =
    (tellChord e .miss s).judgedAs e.due
      (fun x => { x with state := .judged, head := some .lapse, headSent := false, tail := some .ng })
      [⟨.head, e.due⟩, ⟨.tail, e.due⟩] (.hold .ng) := by
  have two (l : List ReportItem) (a b : ReportItem) : l ++ [a] ++ [b] = l ++ [a, b] := by simp
  simp only [lapseHold, (leavesTable_updateEntry e.due _).tellChord, State.judgedAs, ← two]
  rfl

theorem resolveTail_eq (due : Nat) (r : HoldResult) (s : State) : resolveTail due r s =
    s.judgedAs due (fun x => { x with state := .judged, tail := some r }) [⟨.tail, due⟩] (.hold r) := rfl

/-- An entry judged twice over is judged once, with the second flash. -/
theorem State.judgedAs_judgedAs (s : State) (due : Nat) (f g : NoteEntry → NoteEntry) (keeps : ∀ x, (f x).due = x.due)
    (items items' : List ReportItem) (shown shown' : JudgeResult) :
    (s.judgedAs due f items shown).judgedAs due g items' shown' =
      s.judgedAs due (fun x => g (f x)) (items ++ items') shown' := by
  have change : (fun x : NoteEntry => if x.due = due then g x else x) ∘ (fun x => if x.due = due then f x else x) =
      fun x => if x.due = due then g (f x) else x := by
    funext x
    by_cases here : x.due = due <;> simp [here, keeps]
  simp only [judgedAs, List.map_map, change, List.append_assoc]

/-- A hold stepped: held, or ended at once where the adjusted clock has reached its end (R57). -/
theorem strikeHold_eq (e : NoteEntry) (h : HeadResult) (n : Nat) (s : State) : strikeHold e h n s =
    if e.due + n ≤ s.adjClock then
      (tellChord e h.grade s).judgedAs e.due
        (fun x => { x with state := .judged, head := some h, headSent := false, tail := some .ok })
        [⟨.head, e.due⟩, ⟨.tail, e.due⟩] (.hold .ok)
    else
      (tellChord e h.grade s).judgedAs e.due (fun x => { x with state := .holding, head := some h, headSent := false })
        [⟨.head, e.due⟩] (.grade h.grade) := by
  simp only [strikeHold, startHold_eq, resolveTail_eq]
  rw [State.judgedAs_judgedAs _ _ (fun x => { x with state := .holding, head := some h, headSent := false }) _ fun _ => rfl]
  rfl

/-! ### The grade of an offset -/

/-- The bands of R55. -/
theorem gradeOf_bands (j : JudgeParams) (size : Nat) :
    (size ≤ j.e → gradeOf j size = .exact) ∧ (j.e < size → size ≤ j.t → gradeOf j size = .tight) ∧
      (j.e < size → j.t < size → size ≤ j.n → gradeOf j size = .near) ∧
      (j.e < size → j.t < size → j.n < size → gradeOf j size = .wide) := by
  unfold gradeOf
  refine ⟨fun h => if_pos h, fun notExact h => ?_, fun notExact notTight h => ?_, fun notExact notTight notNear => ?_⟩
  · rw [if_neg (by omega), if_pos h]
  · rw [if_neg (by omega), if_neg (by omega), if_pos h]
  · rw [if_neg (by omega), if_neg (by omega), if_neg (by omega)]

theorem gradeOf_ne_miss (j : JudgeParams) (size : Nat) : gradeOf j size ≠ .miss := by
  unfold gradeOf
  (repeat' split) <;> nofun

/-! ### The press and the release -/

theorem StationState.judges_iff (st : StationState) : st.judges = true ↔ st = .playing ∨ st = .lost := by
  cases st <;> simp [judges]

theorem findSlipping_none (noSlip : ∀ x ∈ s.queue.entries, x.state.isSlipping = false) : findSlipping s = none := by
  simpa [findSlipping] using noSlip

/-- The match of a press is the first WAITING entry within the wide window (R54). -/
theorem findCandidate_first {time : Nat} {e : NoteEntry} {before after : List NoteEntry}
    (entries : s.queue.entries = before ++ e :: after)
    (noneBefore : ∀ x ∈ before, x.state.isWaiting = true → s.judge.w < tickDistance time x.due) (waiting : e.state = .waiting)
    (near : tickDistance time e.due ≤ s.judge.w) : findCandidate time s = some e := by
  rw [findCandidate, entries]
  refine find_first _ before after e (fun x mem => ?_) (by simp [waiting, EntryState.isWaiting, near])
  by_contra matched
  simp only [Bool.not_eq_false, Bool.and_eq_true, decide_eq_true_eq] at matched
  exact absurd (noneBefore x mem matched.1) (Nat.not_lt.mpr matched.2)

/-- A press handed to a candidate (R53, R54). -/
theorem emitPress_matched {k : Nat} {e : NoteEntry} {before after : List NoteEntry}
    (judges : s.station.state = .playing ∨ s.station.state = .lost) (entries : s.queue.entries = before ++ e :: after)
    (noSlip : ∀ x ∈ s.queue.entries, x.state.isSlipping = false)
    (noneBefore : ∀ x ∈ before, x.state.isWaiting = true → s.judge.w < tickDistance (s.adjust k) x.due)
    (waiting : e.state = .waiting) (near : tickDistance (s.adjust k) e.due ≤ s.judge.w) :
    emitPress k s = matchPress e (s.adjust k) s := by
  rw [emitPress, if_pos ((StationState.judges_iff _).mpr judges), judgePress, findSlipping_none noSlip,
    findCandidate_first entries noneBefore waiting near]

/-- Where a state answers the sample that confirms a press, and PRESS with it. -/
theorem press_taken {k : Nat} (powered : s.powered = true) (loaded : s.sense.sampleTimer.isSome = true)
    (later : s.sense.samples ≠ 0) (working : s.station.state ≠ .startup) (now : s.sense.detector = .pressing k)
    (high : s.settings.working.effectivePress ≤ loadAfterStage1 raws s) {u : State} (press : emitPress k s = u) :
    ∃ t, exec (.sample raws) s = .next t ∧
      ((∀ i : Fin 4, (raws.get i).toNat = (s.sense.zones.get i).raw) → exec .press s = .next t) ∧
      t.sense.detector = .pressed ∧ t = { u with sense := t.sense } := by
  obtain ⟨moved, u', handed, x, detected⟩ := sampleDetected_moves (raws := raws) working later
  refine ⟨takeSample raws s, exec_sample powered loaded fun h => absurd h working, fun held => ?_, ?_, ?_⟩
  · exact (exec_press powered loaded working later held).1 ⟨⟨k, now⟩, high⟩
  · simp [takeSample_sense later, moved, State.detectorMoved, now, high]
  · rw [takeSample_eq, detected]
    cases handed with
    | press k' now' => cases now.symm.trans now'; rw [press]; rfl
    | release k' now' => cases now.symm.trans now'
    | nothing noPress => exact absurd ⟨⟨k, now⟩, high⟩ noPress

/-- The same of a release. -/
theorem release_taken {k : Nat} (powered : s.powered = true) (loaded : s.sense.sampleTimer.isSome = true)
    (later : s.sense.samples ≠ 0) (working : s.station.state ≠ .startup) (now : s.sense.detector = .releasing k .two)
    (low : loadAfterStage1 raws s < s.settings.working.effectiveRelease) {u : State} (release : emitRelease k s = u) :
    ∃ t, exec (.sample raws) s = .next t ∧
      ((∀ i : Fin 4, (raws.get i).toNat = (s.sense.zones.get i).raw) → exec .release s = .next t) ∧
      t.sense.detector = .released ∧ t = { u with sense := t.sense } := by
  obtain ⟨moved, u', handed, x, detected⟩ := sampleDetected_moves (raws := raws) working later
  refine ⟨takeSample raws s, exec_sample powered loaded fun h => absurd h working, fun held => ?_, ?_, ?_⟩
  · exact (exec_release powered loaded working later held).1 ⟨⟨k, now⟩, low⟩
  · simp [takeSample_sense later, moved, State.detectorMoved, now, low]
  · rw [takeSample_eq, detected]
    cases handed with
    | press k' now' => cases now.symm.trans now'
    | release k' now' => cases now.symm.trans now'; rw [release]; rfl
    | nothing _ noRelease => exact absurd ⟨⟨k, now⟩, low⟩ noRelease

theorem working_of_judges (judges : s.station.state = .playing ∨ s.station.state = .lost) : s.station.state ≠ .startup := by
  rcases judges with h | h <;> simp [h]

end Sys2Proof.Machine

namespace Sys2Proof.Proofs

open Sys2Proof.Machine

/-- Settles O15. -/
theorem gradeOfOffset : Obligations.GradeOfOffset :=
  fun j time due => ⟨_, rfl, gradeOf_bands j (tickDistance time due), gradeOf_ne_miss j _⟩

/-- Settles O16. -/
theorem pressMatchesTap : Obligations.PressMatchesTap := by
  intro raws s k e before after powered loaded later judges now high entries noSlip noneBefore waiting near tap room
  refine press_taken powered loaded later (working_of_judges judges) now high ?_
  rw [emitPress_matched judges entries noSlip noneBefore waiting near, matchPress, tap]
  simp only [resolveTap_eq, strike, HeadResult.grade, tellChord_room e _ s room]
  rfl

/-- Settles O17. -/
theorem pressMatchesHold : Obligations.PressMatchesHold := by
  intro raws s k n e before after powered loaded later judges now high entries noSlip noneBefore waiting near hold room
  refine press_taken powered loaded later (working_of_judges judges) now high ?_
  rw [emitPress_matched judges entries noSlip noneBefore waiting near, matchPress, hold]
  simp only [strikeHold_eq, strike, HeadResult.grade, tellChord_room e _ s room]
  by_cases ended : e.due + n ≤ s.adjClock
  · simp only [ended, if_true]
    rfl
  · simp only [ended, if_false]
    rfl

/-- Settles O18: the slipping hold, the candidate and the state of the station decide what a press does. -/
theorem pressRegripsOrStrays : Obligations.PressRegripsOrStrays := by
  intro raws s k powered loaded later working now high
  refine ⟨fun notPlaying notLost => ?_, fun e before after judges entries noneBefore slipping => ?_, fun stray => ?_⟩ <;>
    refine press_taken powered loaded later working now high ?_
  · rw [emitPress, if_neg]
    rw [StationState.judges_iff]
    rintro (h | h)
    · exact notPlaying h
    · exact notLost h
  · have found : findSlipping s = some e := by
      rw [findSlipping, entries]
      exact find_first _ before after e noneBefore slipping
    rw [emitPress, if_pos ((StationState.judges_iff _).mpr judges), judgePress, found]
    rfl
  · have noCandidate : findCandidate (s.adjust k) s = none := by
      simpa [findCandidate] using fun x mem => (stray x mem).2
    rw [emitPress, judgePress, findSlipping_none fun x mem => (stray x mem).1, noCandidate, ite_self]

/-- Settles O19. -/
theorem releaseSlips : Obligations.ReleaseSlips := by
  intro raws s k powered loaded later working now low
  refine ⟨fun unheld => ?_, fun e before after judges entries noneBefore holding => ?_⟩
  · refine release_taken powered loaded later working now low ?_
    rcases unheld with ⟨notPlaying, notLost⟩ | unheld
    · rw [emitRelease, if_neg]
      rw [StationState.judges_iff]
      rintro (h | h)
      · exact notPlaying h
      · exact notLost h
    · have found : (s.queue.entries.find? fun e => e.state.isHolding) = none := by simpa using unheld
      rw [emitRelease, judgeRelease, found, ite_self]
  · have found : (s.queue.entries.find? fun e => e.state.isHolding) = some e := by
      rw [entries]
      exact find_first _ before after e noneBefore holding
    have release : emitRelease k s = if s.adjust k + s.judge.g < s.adjClock then
        resolveTail e.due .ng (updateEntry e.due (fun x => { x with state := .slipping (s.adjust k) }) s)
        else updateEntry e.due (fun x => { x with state := .slipping (s.adjust k) }) s := by
      rw [emitRelease, if_pos ((StationState.judges_iff _).mpr judges), judgeRelease, found]
    refine ⟨fun within => ?_, fun ranOut => ?_⟩ <;> refine release_taken powered loaded later working now low ?_
    · rw [release, if_neg (Nat.not_lt.mpr within)]
      rfl
    · have once : (fun x : NoteEntry => if x.due = e.due then { x with state := .judged, tail := some .ng } else x) ∘
          (fun x => if x.due = e.due then { x with state := .slipping (s.adjust k) } else x) =
          fun x => if x.due = e.due then { x with state := .judged, tail := some .ng } else x := by
        funext x
        by_cases here : x.due = e.due <;> simp [here]
      rw [release, if_pos ranOut, resolveTail_eq]
      simp only [State.judgedAs, updateEntry, State.setQueue, List.map_map, once]

end Sys2Proof.Proofs

/-! ## Thresholds taken on their own, and a full Chord Table -/

namespace Sys2Proof.Machine

variable {s : State}

/-! ### Entries and records found first -/

theorem findEntry_first {e : NoteEntry} {before after : List NoteEntry} (entries : s.queue.entries = before ++ e :: after)
    (noneBefore : ∀ x ∈ before, x.due ≠ e.due) : findEntry e.due s = some e := by
  rw [findEntry, entries]
  exact find_first _ before after e (fun x mem => by simpa using noneBefore x mem) (by simp)

theorem findRecord_first {r : ChordRecord} {before after : List ChordRecord} (chords : s.chords = before ++ r :: after)
    (noneBefore : ∀ x ∈ before, x.key ≠ r.key) : findRecord r.key s = some r := by
  rw [findRecord, chords]
  exact find_first _ before after r (fun x mem => by simpa using noneBefore x mem) (by simp)

/-! ### The four commands that take a threshold, where their condition holds -/

theorem exec_lapse {due : Nat} (powered : s.powered = true) (judges : s.station.state = .playing ∨ s.station.state = .lost)
    (fallen : due + s.judge.w + 5 ≤ s.adjClock) : exec (.lapse due) s = .next (takeLapse due s) := by
  simp [exec, execLapse, whenPowered_eq s _ powered, (StationState.judges_iff _).mpr judges, lapseFall, fallen]

theorem exec_holdEnd {due : Nat} {e : NoteEntry} (powered : s.powered = true)
    (judges : s.station.state = .playing ∨ s.station.state = .lost) (found : findEntry due s = some e)
    (ended : e.holdEndDue s.judge.g s.adjClock = true) : exec (.holdEnd due) s = .next (takeHoldEnd due s) := by
  simp [exec, execHoldEnd, whenPowered_eq s _ powered, (StationState.judges_iff _).mpr judges, found, ended]

theorem exec_graceExpiry {due : Nat} {e : NoteEntry} (powered : s.powered = true)
    (judges : s.station.state = .playing ∨ s.station.state = .lost) (found : findEntry due s = some e)
    (ranOut : e.graceDue s.judge.g s.adjClock = true) : exec (.graceExpiry due) s = .next (takeGrace due s) := by
  simp [exec, execGraceExpiry, whenPowered_eq s _ powered, (StationState.judges_iff _).mpr judges, found, ranOut]

theorem exec_forcedClosePoint {key : Nat} (powered : s.powered = true)
    (judges : s.station.state = .playing ∨ s.station.state = .lost) (fallen : key + s.judge.w + 205 ≤ s.adjClock) :
    exec (.forcedClosePoint key) s = .next (takeForced key s) := by
  simp [exec, execForcedClosePoint, whenPowered_eq s _ powered, (StationState.judges_iff _).mpr judges, forcedFall, fallen]

theorem holdEndDue_iff {e : NoteEntry} {n : Nat} (hold : e.kind = .hold n) (g adj : Nat) :
    e.holdEndDue g adj = true ↔ e.due + n ≤ adj ∧ ∀ k, e.state = .slipping k → e.due + n ≤ k + g + 1 := by
  cases state : e.state <;>
    simp [NoteEntry.holdEndDue, NoteEntry.holdEndTime, hold, NoteEntry.endsBeforeGrace, state]
  exact fun _ => Iff.rfl

theorem graceDue_iff {e : NoteEntry} {n k : Nat} (hold : e.kind = .hold n) (slipping : e.state = .slipping k) (g adj : Nat) :
    e.graceDue g adj = true ↔ k + g + 1 ≤ adj ∧ (adj < e.due + n ∨ k + g + 1 < e.due + n) := by
  have notEnded := not_congr (holdEndDue_iff hold g adj)
  simp only [Bool.not_eq_true, slipping, EntryState.slipping.injEq, forall_eq'] at notEnded
  simp only [NoteEntry.graceDue, slipping, Bool.and_eq_true, Bool.not_eq_true', notEnded, decide_eq_true_eq]
  rw [graceFall]
  omega

/-- The lapse of a WAITING entry, past the Chord Table (R62, R63). -/
theorem takeLapse_eq {e : NoteEntry} (found : findEntry e.due s = some e) (waiting : e.state = .waiting) :
    (e.kind = .tap → takeLapse e.due s = (tellChord e .miss s).judgedAs e.due
      (fun x => { x with state := .judged, head := some .lapse }) [⟨.tap, e.due⟩] (.grade .miss)) ∧
    (∀ n, e.kind = .hold n → takeLapse e.due s = (tellChord e .miss s).judgedAs e.due
      (fun x => { x with state := .judged, head := some .lapse, headSent := false, tail := some .ng })
      [⟨.head, e.due⟩, ⟨.tail, e.due⟩] (.hold .ng)) := by
  simp only [takeLapse, found, waiting, EntryState.isWaiting, if_true]
  refine ⟨fun tap => ?_, fun n hold => ?_⟩
  · rw [tap]; exact resolveTap_eq e .lapse s
  · rw [hold]; exact lapseHold_eq e s

/-! ### A full table -/

theorem earliestKey_eq {r : ChordRecord} {l : List ChordRecord} (mem : r ∈ l) (least : ∀ x ∈ l, r.key ≤ x.key) :
    earliestKey l = some r.key :=
  List.min?_eq_some_iff.mpr ⟨List.mem_map_of_mem mem, by simpa using least⟩

/-- The eviction of a record, with its forced close in flight or waiting (R79, R97). -/
theorem evict_eq {r : ChordRecord} (found : findRecord r.key s = some r) : evict r.key s =
    { s with
      chords := s.chords.filter fun x => x.key != r.key
      reports := if r.forcedPending = true ∧ ¬(r.forcedPending = true ∧ forcedInFlight r.key s = true) then
          s.reports.filter fun i => !(i.kind == .forced && i.due == r.key) else s.reports
      line := if r.forcedPending = true ∧ forcedInFlight r.key s = true then (condemnInFlight s).line else s.line } := by
  simp only [evict, found]
  cases pending : r.forcedPending with
  | false => simp [removeRecord, State.setChords]
  | true =>
    cases flying : forcedInFlight r.key s with
    | false => simp [removeRecord, removeForced, State.setChords, State.setReports]
    | true => simp [removeRecord, condemnInFlight, State.setChords, State.setLine]

/-- A chord head told to a full table that holds no record of it: the earliest record gives way (R77, R79). -/
theorem tellChord_full {e : NoteEntry} {r : ChordRecord} (g : Grade) (chord : e.partners ≠ []) (opened : e.chordClosed = false)
    (full : s.chords.length = 8) (absent : ∀ x ∈ s.chords, x.key ≠ e.due) (mem : r ∈ s.chords)
    (least : ∀ x ∈ s.chords, r.key ≤ x.key) : tellChord e g s =
    addRecord ⟨e.due, e.partners, [], some g, false, false⟩ (evict r.key s) := by
  have noRecord : findRecord e.due s = none := by simpa [findRecord] using absent
  have room : makeRoom s = evict r.key s := by simp [makeRoom, chordCapacity, full, earliestKey_eq mem least]
  simp [tellChord, chord, opened, noRecord, room, openRecord]

theorem findRecord_only {r : ChordRecord} (mem : r ∈ s.chords) (only : ∀ x ∈ s.chords, x.key = r.key → x = r) :
    findRecord r.key s = some r := by
  cases found : findRecord r.key s with
  | none => exact absurd rfl (findRecord_none found r mem)
  | some x =>
    obtain ⟨inTable, key⟩ := findRecord_some found
    rw [only x inTable key]

end Sys2Proof.Machine

namespace Sys2Proof.Proofs

open Sys2Proof.Machine

/-- Settles O25. -/
theorem lapseTaken : Obligations.LapseTaken := by
  intro s e before after powered judges entries noneBefore waiting fallen room
  obtain ⟨tap, hold⟩ := takeLapse_eq (findEntry_first entries noneBefore) waiting
  rw [exec_lapse powered judges fallen]
  refine ⟨fun kind => ?_, fun n kind => ?_⟩
  · rw [tap kind, tellChord_room e _ s room]; rfl
  · rw [hold n kind, tellChord_room e _ s room]; rfl

/-- Settles O26. -/
theorem dueThresholdsTaken : Obligations.DueThresholdsTaken := by
  refine ⟨fun s e n before after powered judges entries noneBefore hold => ?_,
    fun s r before after powered judges chords noneBefore fallen => ?_⟩
  · have found := findEntry_first entries noneBefore
    refine ⟨fun reached state => ?_, fun k slipping ranOut first => ?_⟩
    · have ended : e.holdEndDue s.judge.g s.adjClock = true := by
        refine (holdEndDue_iff hold _ _).mpr ⟨reached, fun k slipping => ?_⟩
        rcases state with holding | ⟨k', slipping', before⟩
        · cases holding.symm.trans slipping
        · cases slipping.symm.trans slipping'; exact before
      have inHold : (e.state.isHolding || e.state.isSlipping) = true := by
        rcases state with holding | ⟨k, slipping, -⟩
        · simp [holding, EntryState.isHolding]
        · simp [slipping, EntryState.isSlipping]
      rw [exec_holdEnd powered judges found ended, takeHoldEnd, found]
      simp only [inHold, NoteEntry.holdEndTime, hold, Option.isSome_some, Bool.and_self, if_true]
      rfl
    · have expired : e.graceDue s.judge.g s.adjClock = true := (graceDue_iff hold slipping _ _).mpr ⟨ranOut, first⟩
      rw [exec_graceExpiry powered judges found expired, takeGrace, found]
      simp only [slipping, EntryState.isSlipping, if_true]
      rfl
  · rw [exec_forcedClosePoint powered judges fallen, takeForced, findRecord_first chords noneBefore]
    refine ⟨fun sent notPending => ?_, fun otherwise => ?_⟩
    · simp only [sent, notPending, Bool.not_false, Bool.and_self, if_true]
      rfl
    · have no : (r.ownSent && !r.forcedPending) = false := by
        rcases otherwise with h | h <;> simp [h]
      simp only [no]
      rfl

/-- Settles O27: what a full table does is the same under a lapse and under a press. -/
theorem fullTableEvicts : Obligations.FullTableEvicts := by
  intro raws s k e r before after powered judges entries waiting chord opened full absent mem least only
  have told (g : Grade) := tellChord_full g chord opened full absent mem least
  have evicted := evict_eq (findRecord_only mem only)
  refine ⟨fun noneBefore fallen => ?_, fun loaded later now high noSlip noneBefore near => ⟨fun tap => ?_, fun n hold => ?_⟩⟩
  · obtain ⟨tap, hold⟩ := takeLapse_eq (findEntry_first entries noneBefore) waiting
    rw [exec_lapse powered judges fallen]
    refine ⟨fun kind => ?_, fun n kind => ?_⟩
    · rw [tap kind, told, evicted]; rfl
    · rw [hold n kind, told, evicted]; rfl
  · refine press_taken powered loaded later (working_of_judges judges) now high ?_
    rw [emitPress_matched judges entries noSlip noneBefore waiting near, matchPress, tap]
    simp only [resolveTap_eq, strike, HeadResult.grade, told, evicted]
    rfl
  · refine ⟨fun running => ?_, fun ended => ?_⟩ <;>
      refine press_taken powered loaded later (working_of_judges judges) now high ?_ <;>
      rw [emitPress_matched judges entries noSlip noneBefore waiting near, matchPress, hold] <;>
      simp only [strikeHold_eq, strike, HeadResult.grade, told, evicted]
    · rw [if_neg (Nat.not_le.mpr running)]; rfl
    · rw [if_pos ended]; rfl

end Sys2Proof.Proofs

/-! ## Song time -/

namespace Sys2Proof.Machine

variable {s : State}

/-! ### The thresholds and their order -/

/-- The order in which thresholds are taken, written out (R30, R65, R68). -/
theorem Threshold.le_iff (x y : Threshold) : x.le y = true ↔
    x.fall < y.fall ∨ x.fall = y.fall ∧ (x.kind.block < y.kind.block ∨ x.kind.block = y.kind.block ∧
      (x.due < y.due ∨ x.due = y.due ∧ x.kind.rank ≤ y.kind.rank)) := by
  simp [Threshold.le, lexLe, Nat.le_iff_lt_or_eq]

theorem ThresholdKind.block_eq (k : ThresholdKind) : k.block = if k = .forced then 1 else 0 := by
  cases k <;> rfl

theorem ThresholdKind.block_lt_iff (k k' : ThresholdKind) : k.block < k'.block ↔ k ≠ .forced ∧ k' = .forced := by
  rw [block_eq, block_eq]
  split <;> split <;> simp_all

theorem ThresholdKind.block_inj_iff (k k' : ThresholdKind) : k.block = k'.block ↔ (k = .forced ↔ k' = .forced) := by
  rw [block_eq, block_eq]
  split <;> split <;> simp_all

theorem ThresholdKind.rank_grace (k k' : ThresholdKind) (h : k.rank ≤ k'.rank) (grace : k = .grace) : k' ≠ .holdEnd := by
  rintro rfl
  subst grace
  exact absurd h (by decide)

theorem Threshold.le_total (x y : Threshold) (h : x.le y = false) : y.le x = true := by
  have not := mt (x.le_iff y).mpr (by simp [h])
  rw [y.le_iff]
  omega

theorem Threshold.le_trans {x y z : Threshold} (h : x.le y = true) (h' : y.le z = true) : x.le z = true := by
  rw [Threshold.le_iff] at *
  omega

theorem insertThreshold_perm (x : Threshold) (l : List Threshold) : (insertThreshold x l).Perm (x :: l) := by
  induction l with
  | nil => exact .refl _
  | cons y ys ih =>
    unfold insertThreshold
    split
    · exact .refl _
    · exact (ih.cons y).trans (.swap x y ys)

theorem sortThresholds_perm (l : List Threshold) : (sortThresholds l).Perm l := by
  induction l with
  | nil => exact .refl _
  | cons x xs ih => exact (insertThreshold_perm x _).trans (ih.cons x)

theorem insertThreshold_pairwise (x : Threshold) {l : List Threshold} (order : l.Pairwise fun a b => a.le b = true) :
    (insertThreshold x l).Pairwise fun a b => a.le b = true := by
  induction l with
  | nil => simp [insertThreshold]
  | cons y ys ih =>
    obtain ⟨least, rest⟩ := List.pairwise_cons.mp order
    unfold insertThreshold
    split
    · rename_i before
      refine List.pairwise_cons.mpr ⟨fun z mem => ?_, order⟩
      rcases List.mem_cons.mp mem with rfl | mem
      · exact before
      · exact Threshold.le_trans before (least z mem)
    · rename_i behind
      refine List.pairwise_cons.mpr ⟨fun z mem => ?_, ih rest⟩
      rcases List.mem_cons.mp ((insertThreshold_perm x ys).mem_iff.mp mem) with rfl | mem
      · exact Threshold.le_total _ _ (by simpa using behind)
      · exact least z mem

theorem sortThresholds_pairwise (l : List Threshold) : (sortThresholds l).Pairwise fun a b => a.le b = true := by
  induction l with
  | nil => exact .nil
  | cons x xs ih => exact insertThreshold_pairwise x ih

/-- The thresholds of an entry, by its state (R61). -/
theorem mem_entryThresholds (j : JudgeParams) (e : NoteEntry) (x : Threshold) : x ∈ entryThresholds j e ↔
    (e.state = .waiting ∧ x = ⟨e.due + j.w + 5, .lapse, e.due⟩) ∨
      ∃ n, e.kind = .hold n ∧ (((e.state = .holding ∨ ∃ k, e.state = .slipping k) ∧ x = ⟨e.due + n, .holdEnd, e.due⟩) ∨
        ∃ k, e.state = .slipping k ∧ x = ⟨k + j.g + 1, .grace, e.due⟩) := by
  cases kind : e.kind <;> cases state : e.state <;>
    simp [entryThresholds, NoteEntry.holdEndTime, kind, state, lapseFall, graceFall]

theorem mem_thresholds (s : State) (x : Threshold) : x ∈ thresholds s ↔
    (∃ e ∈ s.queue.entries, x ∈ entryThresholds s.judge e) ∨
      ∃ r ∈ s.chords, x = ⟨r.key + s.judge.w + 205, .forced, r.key⟩ := by
  simp only [thresholds, List.mem_append, List.mem_flatMap, List.mem_map, forcedFall, eq_comm]

theorem mem_passed (old new : Nat) (s : State) (x : Threshold) :
    x ∈ passed old new s ↔ x ∈ thresholds s ∧ old < x.fall ∧ x.fall ≤ new := by
  simp [passed, (sortThresholds_perm _).mem_iff]

/-- A threshold whose time has come, and that no other of its entry comes before, taken by its own command
(notes/assumptions/3.md). -/
theorem exec_command {x : Threshold} (powered : s.powered = true) (judges : s.station.state = .playing ∨ s.station.state = .lost)
    (order : s.queue.entries.Pairwise fun a b => noteBefore a b = true) (mem : x ∈ thresholds s) (fallen : x.fall ≤ s.adjClock)
    (first : x.kind = .forced ∨ ∀ y ∈ thresholds s, y.due = x.due → y.kind ≠ .forced → x.le y = true) :
    exec x.command s = .next (takeThreshold s x) := by
  rcases (mem_thresholds s x).mp mem with ⟨e, queued, own⟩ | ⟨r, -, rfl⟩
  · have found := findEntry_of_mem order queued
    have ofEntry (y : Threshold) (h : y ∈ entryThresholds s.judge e) : y ∈ thresholds s :=
      (mem_thresholds s y).mpr (.inl ⟨e, queued, h⟩)
    rcases (mem_entryThresholds s.judge e x).mp own with ⟨-, rfl⟩ | ⟨n, hold, ⟨state, rfl⟩ | ⟨k, slipping, rfl⟩⟩
    · exact exec_lapse powered judges fallen
    · refine exec_holdEnd powered judges found ((holdEndDue_iff hold _ _).mpr ⟨fallen, fun k slipping => ?_⟩)
      have grace := first.resolve_left nofun ⟨k + s.judge.g + 1, .grace, e.due⟩
        (ofEntry _ ((mem_entryThresholds _ _ _).mpr (.inr ⟨n, hold, .inr ⟨k, slipping, rfl⟩⟩))) rfl nofun
      rw [Threshold.le_iff] at grace
      dsimp only at grace
      omega
    · refine exec_graceExpiry powered judges found ((graceDue_iff hold slipping _ _).mpr ⟨fallen, .inr ?_⟩)
      have ended := first.resolve_left nofun ⟨e.due + n, .holdEnd, e.due⟩
        (ofEntry _ ((mem_entryThresholds _ _ _).mpr (.inr ⟨n, hold, .inl ⟨.inr ⟨k, slipping⟩, rfl⟩⟩))) rfl nofun
      rw [Threshold.le_iff] at ended
      simp only [ThresholdKind.block, ThresholdKind.rank] at ended
      omega
  · exact exec_forcedClosePoint powered judges fallen

end Sys2Proof.Machine

namespace Sys2Proof.Proofs

open Sys2Proof.Machine

/-- Settles O21: `passed` is an insertion sort of the thresholds that fall in the interval. -/
theorem thresholdsInOrder : Obligations.ThresholdsInOrder := by
  refine ⟨fun x s => ?_, fun old new s => ⟨mem_passed old new s, ?_, ?_⟩, fun x s powered judges queue mem fallen first => ?_⟩
  · simp only [mem_thresholds, mem_entryThresholds]
  · rw [passed, (sortThresholds_perm _).length_eq]
    simp only [Bool.decide_and]
  · refine (sortThresholds_pairwise _).imp fun {x y} before => ?_
    rcases (Threshold.le_iff x y).mp before with earlier | ⟨fall, block | ⟨block, due⟩⟩
    · exact .inl earlier
    · exact .inr ⟨fall, .inl ((ThresholdKind.block_lt_iff _ _).mp block)⟩
    · exact .inr ⟨fall, .inr ⟨(ThresholdKind.block_inj_iff _ _).mp block,
        due.imp_right fun ⟨same, rank⟩ => ⟨same, ThresholdKind.rank_grace _ _ rank⟩⟩⟩
  · exact exec_command powered judges ((queueSound_iff s).mp queue).order mem fallen first

/-- Settles O22. -/
theorem timedEvents : Obligations.TimedEvents := by
  refine ⟨⟨fun s m powered running unsaturated next reached => ?_, fun s powered running limit => ?_⟩,
    fun s powered => ⟨fun playing timed => ?_, fun notPlaying => ?_⟩, fun s powered => ⟨fun f flash more => ?_,
      fun f flash last => ?_, fun blinks => ?_, fun notDuplicate notStrap => ?_⟩⟩
  · simp only [exec, execMarkPoint, whenPowered_eq s _ powered, running, unsaturated, SongClock.reachMark, next, reached]
    rfl
  · have full : s.clock.tick = maxTick := limit
    simp [exec, execSaturation, whenPowered_eq s _ powered, running, full, SongClock.saturate, State.setClock]
  · simp only [exec, execSilenceTimeout, whenPowered_eq s _ powered, playing, timed]
    rfl
  · simp only [exec, execSilenceTimeout, whenPowered_eq s _ powered, notPlaying, false_and, if_false]
  · have notLast : ¬f.steps ≤ 1 := by omega
    simp only [exec, execFlashStep, whenPowered_eq s _ powered, flashStep, flash, Option.bind_some, Flash.step, notLast, if_false]
    rfl
  · simp only [exec, execFlashStep, whenPowered_eq s _ powered, flashStep, flash, Option.bind_some, Flash.step, last.le, if_true]
    rfl
  · have on : s.lamp.pattern.blinks = true := by rcases blinks with h | h <;> rw [h] <;> rfl
    simp only [exec, execFaultPatternTimer, whenPowered_eq s _ powered, otherHalf, on, if_true, LampUnit.firstHalf,
      decide_eq_true_eq]
    rfl
  · have off : s.lamp.pattern.blinks = false := by cases h : s.lamp.pattern <;> simp_all [Pattern.blinks]
    simp only [exec, execFaultPatternTimer, whenPowered_eq s _ powered, otherHalf, off]
    rfl

end Sys2Proof.Proofs

/-! ## The clock's advances -/

namespace Sys2Proof.Machine

variable {s : State}

/-! ### An advance reported -/

theorem takeThresholds_judging (judges : s.station.state = .playing ∨ s.station.state = .lost) (old new : Nat) :
    takeThresholds old new s = (passed old new s).foldl takeThreshold s :=
  if_pos ((StationState.judges_iff _).mpr judges)

theorem takeThresholds_quiet {old new : Nat} (quiet : s.station.state.judges = true → passed old new s = []) :
    takeThresholds old new s = s := by
  unfold takeThresholds
  split
  · rw [quiet ‹_›]
    rfl
  · rfl

/-- DONE examined at an adjusted clock, in the statements' words (R120). -/
theorem examineDone_eq (v : State) : examineDone v =
    if v.station.state = .playing ∧ v.station.endTime ≤ v.adjClock ∧ v.queue.entries = [] ∧ v.queue.pendingInsertion = none ∧
        v.reports = [] ∧ v.chords = [] then
      { v with station := { v.station with state := .done, silence := none } }
    else v := by
  by_cases done : v.station.state = .playing ∧ doneCondition v = true
  · have written := done
    rw [doneCondition_iff] at written
    rw [examineDone, if_pos done, if_pos (by simpa [and_assoc] using written)]
    rfl
  · have written := done
    rw [doneCondition_iff] at written
    rw [examineDone, if_neg done, if_neg (by simpa [and_assoc] using written)]

/-- The clock at a tick boundary, in the statements' words (R20, R22, R24). -/
theorem SongClock.nextTick_eq (c : SongClock) : c.nextTick =
    if c.tick + 1 = 16777215 then
      { c with tick := c.tick + 1, phase := 0, saturated := true, nextMark := none, markPending := false }
    else { c with tick := c.tick + 1, phase := 0,
                  markPending := c.markPending || c.nextMark.any fun m => decide (m ≤ c.tick + 1) } := by
  have limit : maxTick = 16777215 := rfl
  unfold nextTick
  rw [limit]
  dsimp only
  split
  · rfl
  · unfold reachMark
    cases mark : c.nextMark with
    | none => simp
    | some m =>
      by_cases reached : m ≤ c.tick + 1
      · simp [reached]
      · simp [reached]

/-- TICK_ADVANCE of a clock that makes tick boundaries (R20, R30). -/
theorem exec_tickAdvance (powered : s.powered = true) (running : s.clock.running = true)
    (unsaturated : s.clock.saturated = false) (below : s.clock.tick < maxTick) : exec .tickAdvance s = .next
      (examineDone (takeThresholds (s.adjust s.clock.tick) (s.adjust (s.clock.tick + 1)) (s.setClock s.clock.nextTick))) := by
  have advances := s.clock.advances_iff.mpr ⟨running, unsaturated, below⟩
  simp only [exec, execTickAdvance, whenPowered_eq s _ powered, tickBoundary, advances, if_true]
  rfl

/-- The adjusted clock behind the thresholds an advance passes is the one it advances to. -/
theorem adjClock_nextTick {v : State} (settings : v.settings = s.settings) (clock : v.clock = s.clock.nextTick) :
    v.adjClock = s.adjust (s.clock.tick + 1) := by
  simp only [State.adjClock, State.adjust, settings, clock, SongClock.nextTick_tick]

end Sys2Proof.Machine

namespace Sys2Proof.Proofs

open Sys2Proof.Machine

/-- Settles O20: a tick boundary is the advanced clock, the thresholds passed, and DONE examined. -/
theorem tickAdvances : Obligations.TickAdvances := by
  refine ⟨fun s powered running unsaturated below quiet => ?_, fun s powered running unsaturated below judges => ?_,
    fun s e powered running unsaturated below judges noChords entries waiting tap single before reached => ?_⟩
  · rw [exec_tickAdvance powered running unsaturated below, takeThresholds_quiet (s := s.setClock s.clock.nextTick) quiet, examineDone_eq,
      adjClock_nextTick (s := s) (s.setClock_settings _) (s.setClock_clock _), SongClock.nextTick_eq]
    rfl
  · rw [exec_tickAdvance powered running unsaturated below, takeThresholds_judging (s := s.setClock s.clock.nextTick) judges, examineDone_eq,
      adjClock_nextTick (s := s) (by simp) (by simp), SongClock.nextTick_eq]
    rfl
  · have lapses : passed (s.adjust s.clock.tick) (s.adjust (s.clock.tick + 1)) (s.setClock s.clock.nextTick) =
        [⟨e.due + s.judge.w + 5, .lapse, e.due⟩] := by
      have within : s.adjust s.clock.tick < lapseFall s.judge.w e.due ∧ lapseFall s.judge.w e.due ≤ s.adjust (s.clock.tick + 1) :=
        ⟨before, reached⟩
      simp [passed, thresholds, entries, noChords, entryThresholds, waiting, within, sortThresholds, insertThreshold]
      rfl
    have lapsed : takeThreshold (s.setClock s.clock.nextTick) ⟨e.due + s.judge.w + 5, .lapse, e.due⟩ =
        (s.setClock s.clock.nextTick).judgedAs e.due (fun x => { x with state := .judged, head := some .lapse })
          [⟨.tap, e.due⟩] (.grade .miss) := by
      have found : findEntry e.due (s.setClock s.clock.nextTick) = some e := findEntry_first (before := []) entries nofun
      have told : tellChord e .miss (s.setClock s.clock.nextTick) = s.setClock s.clock.nextTick := by
        simp [tellChord, single]
      exact ((takeLapse_eq found waiting).1 tap).trans (by rw [told])
    have notDone : ∀ v : State, v.queue.entries ≠ [] → examineDone v = v := by
      intro v left
      rw [examineDone_eq, if_neg]
      exact fun done => left done.2.2.1
    refine ⟨_, exec_tickAdvance powered running unsaturated below, ?_⟩
    rw [takeThresholds_judging (s := s.setClock s.clock.nextTick) judges, lapses, List.foldl_cons, List.foldl_nil, lapsed, notDone]
    · refine ⟨SongClock.nextTick_tick _, ?_, rfl, ?_, rfl, rfl, noChords, rfl, rfl, rfl, rfl⟩
      · simp only [State.judgedAs, State.setClock_clock, SongClock.nextTick_eq]
        split <;> rfl
      · simp [State.judgedAs, entries]
    · simp [State.judgedAs, entries]

end Sys2Proof.Proofs

/-! ## Frames heard -/

namespace Sys2Proof.Machine

variable {s : State}

/-! ### A frame heard, whole -/

/-- The station at the end of a frame heard that is no NOTE, before its effect: the line released (R142). -/
def State.freed (s : State) : State :=
  { s with queue := { s.queue with pendingInsertion := none }, line := s.lineAfterHeard }

theorem atEndOfFrame_freed {f : Frame} (noNote : ∀ n, f ≠ .note n) : atEndOfFrame f s = s.freed := by
  have none : insertionOf false f s = none := by
    cases f with
    | note n => exact absurd rfl (noNote n)
    | _ => rfl
  simp only [atEndOfFrame, none]
  rfl

@[simp] theorem State.freed_frame (s : State) :
    s.freed.powered = s.powered ∧ s.freed.straps = s.straps ∧ s.freed.station = s.station ∧ s.freed.settings = s.settings ∧
      s.freed.sense = s.sense ∧ s.freed.clock = s.clock ∧ s.freed.judge = s.judge ∧ s.freed.chords = s.chords ∧
      s.freed.tally = s.tally ∧ s.freed.reports = s.reports ∧ s.freed.lamp = s.lamp ∧ s.freed.freeCount = s.freeCount ∧
      s.freed.pending = s.pending ∧ s.freed.line = s.lineAfterHeard ∧
      s.freed.queue = { s.queue with pendingInsertion := none } := by
  simp [State.freed]

theorem heardFrame_freed (s : State) : heardFrame s.freed = s.afterHeard := by
  rw [heardFrame_eq]
  rfl

/-- A frame heard whose effect is taken whatever was decided. -/
theorem heard_always {f : Frame} {effect : State → State} (hears : s.hears f = true) (noNote : ∀ n, f ≠ .note n) :
    whenPowered s (receive f (fun _ => effect) .whole) = heardFrame (effect s.freed) := by
  rw [whenPowered_eq s _ ((s.hears_iff f).mp hears).1, receive_whole f _ s hears, atEndOfFrame_freed noNote]

/-- A frame heard and accepted. -/
theorem heard_accepted {f : Frame} {effect : State → State} (hears : s.hears f = true) (noNote : ∀ n, f ≠ .note n)
    (accepted : accepts false f s = true) :
    whenPowered s (receive f (ifAccepted effect) .whole) = heardFrame (effect s.freed) := by
  rw [whenPowered_eq s _ ((s.hears_iff f).mp hears).1, receive_whole f _ s hears, atEndOfFrame_freed noNote, ifAccepted,
    if_pos (show (decisionOf false f s).accepted = true from accepted)]

/-- A frame heard and not accepted does no more than any frame heard. -/
theorem heard_refused {f : Frame} {effect : State → State} (hears : s.hears f = true) (noNote : ∀ n, f ≠ .note n)
    (refused : accepts false f s ≠ true) : whenPowered s (receive f (ifAccepted effect) .whole) = s.afterHeard := by
  rw [whenPowered_eq s _ ((s.hears_iff f).mp hears).1, receive_whole f _ s hears, atEndOfFrame_freed noNote, ifAccepted,
    if_neg (show (decisionOf false f s).accepted ≠ true from refused), heardFrame_freed]

/-! ### Frames that only count as heard -/

theorem afterHeard_lost (h : s.station.state = .lost) :
    s.afterHeard.station = { s.station with state := .playing, silence := some 0 } ∧
      s.afterHeard.lamp = { s.lamp with pattern := .noPattern } := by
  simp [State.afterHeard, State.stationAfterHeard, State.lampAfterHeard, h]

theorem afterHeard_playing (h : s.station.state = .playing) :
    s.afterHeard.station = { s.station with silence := some 0 } ∧ s.afterHeard.lamp = s.lamp := by
  simp [State.afterHeard, State.stationAfterHeard, State.lampAfterHeard, h]

theorem afterHeard_other (notPlaying : s.station.state ≠ .playing) (notLost : s.station.state ≠ .lost) :
    s.afterHeard.station = s.station ∧ s.afterHeard.lamp = s.lamp := by
  cases h : s.station.state <;>
    simp_all [State.afterHeard, State.stationAfterHeard, State.lampAfterHeard]

/-! ### Member reports -/

theorem findRecord_absent {key : Nat} (absent : ∀ x ∈ s.chords, x.key ≠ key) : findRecord key s = none := by
  simpa [findRecord] using absent

theorem concerns_of_record {sender due : Nat} {r : ChordRecord} (found : findRecord due s = some r)
    (expected : sender ∈ r.expected) : concerns sender due s = true := by
  obtain ⟨mem, key⟩ := findRecord_some found
  simp only [concerns, Bool.or_eq_true, List.any_eq_true, Bool.and_eq_true, beq_iff_eq, List.contains_eq_mem,
    decide_eq_true_eq]
  exact .inl ⟨r, mem, key, expected⟩

theorem concerns_of_entry {sender due : Nat} {e : NoteEntry} (found : findEntry due s = some e) (partner : sender ∈ e.partners) :
    concerns sender due s = true := by
  obtain ⟨mem, key⟩ := findEntry_some found
  simp only [concerns, Bool.or_eq_true, List.any_eq_true, Bool.and_eq_true, beq_iff_eq, List.contains_eq_mem,
    decide_eq_true_eq]
  exact .inr ⟨e, mem, key, partner⟩

theorem concerns_false {sender due : Nat} (chords : ∀ x ∈ s.chords, x.key = due → sender ∉ x.expected)
    (entries : ∀ e ∈ s.queue.entries, e.due = due → sender ∉ e.partners) : concerns sender due s = false := by
  by_contra concerned
  simp only [Bool.not_eq_false, concerns, Bool.or_eq_true, List.any_eq_true, Bool.and_eq_true, beq_iff_eq,
    List.contains_eq_mem, decide_eq_true_eq] at concerned
  rcases concerned with ⟨r, mem, key, expected⟩ | ⟨e, mem, key, partner⟩
  · exact chords r mem key expected
  · exact entries e mem key partner

theorem NoteEntry.headUnreported_iff (e : NoteEntry) : e.headUnreported = true ↔ e.kind = .tap ∨ e.headSent = false := by
  cases kind : e.kind <;> simp [headUnreported, kind]

/-- A report joins a record that has none of its sender's (R78). -/
theorem addReport_eq (sender : Nat) (g : Grade) (r : ChordRecord) : addReport sender g r =
    if ∀ p ∈ r.reports, p.1 ≠ sender then { r with reports := r.reports ++ [(sender, g)] } else r := by
  by_cases heard : ∀ p ∈ r.reports, p.1 ≠ sender
  · have none : (r.reports.any fun p => p.1 == sender) = false := by simpa using heard
    rw [addReport, none, if_pos heard]
    rfl
  · have some : (r.reports.any fun p => p.1 == sender) = true := by simpa using heard
    rw [addReport, some, if_neg heard]
    rfl

/-- A report that a record's or entry's case of R78 does not take. -/
theorem examineReport_same {sender due : Nat} {g : Grade} (h : hearReport sender due g s = s) :
    examineReport sender due g s = s := by
  rw [examineReport, h, ite_self]

theorem examineReport_taken {sender due : Nat} {g : Grade} (judges : s.station.state = .playing ∨ s.station.state = .lost)
    (concerned : concerns sender due s = true) : examineReport sender due g s = hearReport sender due g s := by
  rw [examineReport, if_pos]
  rw [(StationState.judges_iff _).mpr judges, concerned]
  rfl

theorem heardFrame_setChords (s : State) (x : List ChordRecord) :
    heardFrame (s.freed.setChords x) = { s.afterHeard with chords := x } := by
  rw [heardFrame_eq]
  rfl

end Sys2Proof.Machine

namespace Sys2Proof.Proofs

open Sys2Proof.Machine

/-- Settles O32: each case of R78 that takes no report leaves `hearReport` without effect. -/
theorem memberReportHeard : Obligations.MemberReportHeard := by
  intro s f hears
  have heard : exec (.memberReport f .whole) s =
      .next (heardFrame (examineReport f.sender.toNat f.due.toNat f.grade s.freed)) :=
    congrArg _ (heard_always hears nofun)
  have same (h : examineReport f.sender.toNat f.due.toNat f.grade s.freed = s.freed) :
      exec (.memberReport f .whole) s = .next s.afterHeard := by
    rw [heard, h, heardFrame_freed]
  refine ⟨fun notPlaying notLost => same ?_, fun judges => ⟨fun r before after chords noneBefore key =>
    ⟨fun expected => ?_, fun unexpected => same (examineReport_same ?_)⟩, fun e before after noRecord entries noneBefore due =>
    ⟨fun partner opened unreported room => ?_, fun closed => same (examineReport_same ?_)⟩,
    fun noRecord full => same (examineReport_same ?_), fun noRecord noEntry => same ?_⟩⟩
  · rw [examineReport, if_neg]
    simp only [Bool.and_eq_true, StationState.judges_iff, not_and]
    exact fun judges => absurd judges (not_or.mpr ⟨notPlaying, notLost⟩)
  · have found : findRecord f.due.toNat s.freed = some r := key ▸ findRecord_first chords (key ▸ noneBefore)
    have record : hearReport f.sender.toNat f.due.toNat f.grade s.freed =
        updateRecord f.due.toNat (addReport f.sender.toNat f.grade) s.freed := by
      simp [hearReport, found, expected]
    rw [heard, examineReport_taken (s := s.freed) judges (concerns_of_record found expected), record, updateRecord,
      heardFrame_setChords]
    simp only [addReport_eq, ite_and]
    rfl
  · have found : findRecord f.due.toNat s.freed = some r := key ▸ findRecord_first chords (key ▸ noneBefore)
    simp [hearReport, found, unexpected]
  · have found : findEntry f.due.toNat s.freed = some e := due ▸ findEntry_first entries (due ▸ noneBefore)
    have noneFound : findRecord f.due.toNat s.freed = none := findRecord_absent noRecord
    have record : hearReport f.sender.toNat f.due.toNat f.grade s.freed =
        addRecord (openRecord e [(f.sender.toNat, f.grade)] (e.head.map HeadResult.grade)) s.freed := by
      have open_room : s.chords.length < chordCapacity := room
      simp [hearReport, noneFound, found, partner, opened, e.headUnreported_iff.mpr unreported, open_room]
    rw [heard, examineReport_taken (s := s.freed) judges (concerns_of_entry found partner), record, addRecord, heardFrame_setChords, openRecord,
      due]
    rfl
  · have found : findEntry f.due.toNat s.freed = some e := due ▸ findEntry_first entries (due ▸ noneBefore)
    have noneFound : findRecord f.due.toNat s.freed = none := findRecord_absent noRecord
    have no : (!e.chordClosed && e.headUnreported) = false := by
      rcases closed with closed | ⟨hold, sent⟩
      · simp [closed]
      · have reported : ¬e.headUnreported = true := mt e.headUnreported_iff.mp (by simp [hold, sent])
        simp [reported]
    simp only [hearReport, noneFound, found, Bool.and_assoc]
    rw [← Bool.and_assoc (!e.chordClosed), no]
    simp
  · have noneFound : findRecord f.due.toNat s.freed = none := findRecord_absent noRecord
    have noRoom : ¬s.freed.chords.length < chordCapacity := Nat.not_lt.mpr full
    simp only [hearReport, noneFound, noRoom, decide_false, Bool.and_false]
    split <;> rfl
  · rw [examineReport, concerns_false (s := s.freed) noRecord noEntry, Bool.and_false]
    rfl

/-- Settles O35. -/
theorem orphanAndStatusHeard : Obligations.OrphanAndStatusHeard := by
  refine ⟨fun s r hears => ?_, fun s f hears => ?_, fun s => afterHeard_lost, fun s => afterHeard_playing,
    fun s => afterHeard_other⟩
  · exact congrArg _ ((heard_always (effect := id) hears nofun).trans (heardFrame_freed s))
  · exact congrArg _ ((heard_always (effect := id) hears nofun).trans (heardFrame_freed s))

end Sys2Proof.Proofs

/-! ## Closures and tail frames heard, and failure -/

namespace Sys2Proof.Machine

variable {s : State}

/-! ### Adoption -/

/-- A sender of the station's own player (R95, R103). -/
def State.ofPlayer (a : Nat) (s : State) : Prop := s.tally.doubles = true ∨ (a < 16 ↔ s.straps.pad = false)

/-- The Tally Unit with the values a closing frame carries (R104). -/
def State.adoptedTally (c : Carried) (s : State) : TallyUnit := { s.tally with replica := ⟨c.score.toNat, c.combo.toNat,
  max s.tally.replica.maxCombo c.combo.toNat, c.gauge.toNat⟩ }

theorem adopt_ignored {a : Nat} {c : Carried} (h : s.station.state.adopts = false ∨ ¬s.ofPlayer a) : adopt a c s = s := by
  unfold adopt
  rw [if_neg]
  simp only [Bool.and_eq_true, same_player_iff]
  rintro ⟨adopts, same⟩
  rcases h with notHere | other
  · simp [notHere] at adopts
  · exact other same

/-- A frame of the own player adopted, where it fails nobody (R103, R104, R106). -/
theorem adopt_taken {a : Nat} {c : Carried} (adopts : s.station.state.adopts = true) (same : s.ofPlayer a)
    (alive : s.station.state.judges = true → ¬(s.tally.failureEnabled = true ∧ c.gauge = 0)) :
    adopt a c s = s.setTally (s.adoptedTally c) := by
  have taken : (s.station.state.adopts && playerOf s.tally.doubles a == s.player) = true := by
    rw [adopts, (same_player_iff s a).mpr same]
    rfl
  rw [adopt, if_pos taken, testFailure, if_neg]
  · rfl
  · rintro ⟨judges, enabled, zero⟩
    exact alive judges ⟨enabled, BitVec.eq_of_toNat_eq zero⟩

/-- A frame of the own player adopted, that fails it (R106, R121). -/
theorem adopt_fails {a : Nat} {c : Carried} (judges : s.station.state = .playing ∨ s.station.state = .lost)
    (same : s.ofPlayer a) (enabled : s.tally.failureEnabled = true) (zero : c.gauge = 0) :
    adopt a c s = enterFailed (s.setTally (s.adoptedTally c)) := by
  have adopts : s.station.state.adopts = true := by rcases judges with h | h <;> rw [h] <;> rfl
  have taken : (s.station.state.adopts && playerOf s.tally.doubles a == s.player) = true := by
    rw [adopts, (same_player_iff s a).mpr same]
    rfl
  rw [adopt, if_pos taken, testFailure, if_pos]
  · rfl
  · exact ⟨(StationState.judges_iff _).mpr judges, enabled, congrArg BitVec.toNat zero⟩

theorem heardFrame_setTally (s : State) (x : TallyUnit) : heardFrame (s.freed.setTally x) = { s.afterHeard with tally := x } := by
  rw [heardFrame_eq]
  rfl

/-- A frame heard in PLAYING or LOST, adopted or not, where it fails nobody. -/
theorem heardFrame_adopt {a : Nat} {c : Carried} (judges : s.station.state = .playing ∨ s.station.state = .lost)
    (alive : ¬(s.ofPlayer a ∧ s.tally.failureEnabled = true ∧ c.gauge = 0)) : heardFrame (adopt a c s) =
    { heardFrame s with tally := if s.tally.doubles = true ∨ (a < 16 ↔ s.straps.pad = false) then s.adoptedTally c else s.tally } := by
  have adopts : s.station.state.adopts = true := by rcases judges with h | h <;> rw [h] <;> rfl
  split
  · rename_i same
    rw [adopt_taken adopts same fun _ fails => alive ⟨same, fails⟩, heardFrame_eq, heardFrame_eq]
    rfl
  · rename_i other
    rw [adopt_ignored (.inr other), heardFrame_eq]
    rfl

theorem heardFrame_enterFailed (s : State) : heardFrame (enterFailed s) = enterFailed s := rfl

/-! ### The Chord Table at a closure -/

theorem closeEntry_change (sender : Nat) (e : NoteEntry) :
    (if (e.partners.contains sender && e.headUnreported) = true then { e with chordClosed := true } else e) =
      if sender ∈ e.partners ∧ (e.kind = .tap ∨ e.headSent = false) then { e with chordClosed := true } else e := by
  simp only [Bool.and_eq_true, e.headUnreported_iff, List.contains_eq_mem, decide_eq_true_eq]

/-- The record of a closure heard, with its forced close (R83). -/
theorem closeRecord_eq (sender due : Nat) (s : State) : closeRecord sender due s =
    let record := (findRecord due s).any fun r => r.expected.contains sender
    let forced := (findRecord due s).any fun r => r.forcedPending
    { s with
      chords := if record then s.chords.filter fun r => r.key != due else s.chords
      reports := if record ∧ forced then s.reports.filter fun i => !(i.kind == .forced && i.due == due) else s.reports } := by
  cases found : findRecord due s with
  | none => simp [closeRecord, found]
  | some r =>
    by_cases expected : sender ∈ r.expected
    · cases pending : r.forcedPending <;>
        simp [closeRecord, found, expected, pending, removeRecord, removeForced, State.setChords, State.setReports]
    · simp [closeRecord, found, expected]

/-- A closure heard in PLAYING or LOST, whether or not it concerns this station (R76, R83). -/
theorem examineClosure_eq {sender due : Nat} {g : Grade} (judges : s.station.state = .playing ∨ s.station.state = .lost) :
    examineClosure sender due g s =
    let record := (findRecord due s).any fun r => r.expected.contains sender
    let forced := (findRecord due s).any fun r => r.forcedPending
    { s with
      chords := if record then s.chords.filter fun r => r.key != due else s.chords
      reports := if record ∧ forced then s.reports.filter fun i => !(i.kind == .forced && i.due == due) else s.reports
      queue := { s.queue with entries := s.queue.entries.map fun e =>
        if e.due = due ∧ sender ∈ e.partners ∧ (e.kind = .tap ∨ e.headSent = false) then { e with chordClosed := true } else e }
      lamp := { s.lamp with
        flash := if concerns sender due s then some ⟨flashColour (.grade g), 16, 0⟩ else s.lamp.flash } } := by
  rw [examineClosure, (StationState.judges_iff _).mpr judges, Bool.true_and]
  cases concerned : concerns sender due s with
  | true =>
    simp only [hearClosure, closeEntry, updateEntry, closeEntry_change, closeRecord_eq, ite_and]
    rfl
  | false =>
    have noRecord : ((findRecord due s).any fun r => r.expected.contains sender) = false := by
      by_contra some
      obtain ⟨r, found, expected⟩ := Option.any_eq_true _ _ |>.mp (by simpa using some)
      rw [concerns_of_record found (by simpa using expected)] at concerned
      cases concerned
    have noEntry : s.queue.entries.map (fun e =>
        if e.due = due ∧ sender ∈ e.partners ∧ (e.kind = .tap ∨ e.headSent = false) then { e with chordClosed := true } else e) =
        s.queue.entries := by
      refine (List.map_congr_left (g := id) fun e mem => if_neg ?_).trans (List.map_id _)
      rintro ⟨due_eq, partner, -⟩
      have heard : concerns sender due s = true := by
        simp only [concerns, Bool.or_eq_true, List.any_eq_true, Bool.and_eq_true, beq_iff_eq, List.contains_eq_mem,
          decide_eq_true_eq]
        exact .inr ⟨e, mem, due_eq, partner⟩
      rw [heard] at concerned
      cases concerned
    simp only [noRecord, noEntry, Bool.false_eq_true, if_false, false_and]

end Sys2Proof.Machine

namespace Sys2Proof.Proofs

open Sys2Proof.Machine

/-- Settles O34. -/
theorem tailFrameHeard : Obligations.TailFrameHeard := by
  intro s f hears
  have heard : exec (.tailFrame f .whole) s = .next (heardFrame (adopt f.sender.toNat f.carried s.freed)) :=
    congrArg _ (heard_always hears nofun)
  have taken (adopts : s.station.state.adopts = true) (same : s.ofPlayer f.sender.toNat)
      (alive : s.station.state.judges = true → ¬(s.tally.failureEnabled = true ∧ f.carried.gauge = 0)) :
      exec (.tailFrame f .whole) s = .next { s.afterHeard with tally := s.adoptedTally f.carried } := by
    rw [heard, adopt_taken (s := s.freed) adopts same alive, heardFrame_setTally]
    rfl
  refine ⟨fun ignored => ?_, fun done same => ?_, fun judges same alive => ?_, fun judges same ⟨enabled, zero⟩ => ?_⟩
  · rw [heard, adopt_ignored (s := s.freed), heardFrame_freed]
    rcases ignored with idle | failed | other
    · exact .inl (show s.station.state.adopts = false by rw [idle]; rfl)
    · exact .inl (show s.station.state.adopts = false by rw [failed]; rfl)
    · exact .inr other
  · refine taken (by rw [done]; rfl) same fun judges => ?_
    rw [done] at judges
    cases judges
  · exact taken (by rcases judges with h | h <;> rw [h] <;> rfl) same fun _ => alive
  · rw [heard, adopt_fails (s := s.freed) judges same enabled zero, heardFrame_enterFailed]
    rfl

/-- Settles O33: the Chord Table's part, then adoption, each by its own equation. -/
theorem closureHeard : Obligations.ClosureHeard := by
  intro s k hears
  have heard : exec (.heardClosure k .whole) s = .next (heardFrame (adopt k.sender.toNat k.carried
      (examineClosure k.sender.toNat k.due.toNat k.grade s.freed))) :=
    congrArg _ (heard_always hears nofun)
  have untouched (idle : s.station.state.judges = false) :
      examineClosure k.sender.toNat k.due.toNat k.grade s.freed = s.freed := by
    rw [examineClosure, if_neg]
    simp only [Bool.and_eq_true, not_and]
    intro judges
    exact absurd (judges.symm.trans idle) nofun
  refine ⟨fun quiet => ?_, fun done => ?_, fun judges alive => ?_, fun judges ⟨same, enabled, zero⟩ => ?_⟩
  · have idle : s.station.state.judges = false ∧ s.station.state.adopts = false := by
      rcases quiet with h | h <;> rw [h] <;> exact ⟨rfl, rfl⟩
    rw [heard, untouched idle.1, adopt_ignored (s := s.freed) (.inl idle.2), heardFrame_freed]
  · have idle : s.station.state.judges = false := by rw [done]; rfl
    have adopts : s.station.state.adopts = true := by rw [done]; rfl
    rw [heard, untouched idle]
    split
    · rename_i same
      rw [adopt_taken (s := s.freed) adopts same fun judges => absurd (judges.symm.trans idle) nofun, heardFrame_setTally]
      rfl
    · rename_i other
      rw [adopt_ignored (s := s.freed) (.inr other), heardFrame_freed]
      rfl
  · have lamps (flash : Option Flash) (v : State) (station : v.station = s.station) (lamp : v.lamp = { s.lamp with flash }) :
        v.lampAfterHeard = { s.lampAfterHeard with flash } := by
      rcases judges with h | h <;> simp [State.lampAfterHeard, station, lamp, h]
    have closed := examineClosure_eq (s := s.freed) (sender := k.sender.toNat) (due := k.due.toNat) (g := k.grade) judges
    have lamp := lamps _ (examineClosure k.sender.toNat k.due.toNat k.grade s.freed) (by simp) (by rw [closed]; rfl)
    rw [heard, heardFrame_adopt (by simpa using judges) (by simpa [State.ofPlayer] using alive), heardFrame_eq, lamp, closed]
    rfl
  · rw [heard, adopt_fails (by simpa using judges) (by simpa [State.ofPlayer] using same) (by simpa using enabled) zero,
      heardFrame_enterFailed, examineClosure_eq (s := s.freed) judges]
    rfl

end Sys2Proof.Proofs

/-! ## MARK, START, settings and lamps by frame -/

namespace Sys2Proof.Machine

variable {s : State}

/-! ### A mark's step forward -/

theorem leavesTable_setClock (c : SongClock) : LeavesTable (·.setClock c) :=
  ⟨fun _ => rfl, fun _ => rfl, fun _ => rfl, fun _ _ => rfl, fun _ _ => rfl, fun _ _ => rfl⟩

theorem judgedAs_setClock (c : SongClock) (due : Nat) (f : NoteEntry → NoteEntry) (items : List ReportItem)
    (shown : JudgeResult) (s : State) : (s.setClock c).judgedAs due f items shown = (s.judgedAs due f items shown).setClock c :=
  rfl

/-- What a threshold does takes no part of the clock. -/
theorem takeThreshold_setClock (c : SongClock) (s : State) (x : Threshold) :
    takeThreshold (s.setClock c) x = (takeThreshold s x).setClock c := by
  have found : findEntry x.due (s.setClock c) = findEntry x.due s := rfl
  have record : findRecord x.due (s.setClock c) = findRecord x.due s := rfl
  unfold takeThreshold
  split
  · simp only [takeLapse, found, resolveTap_eq, lapseHold_eq, (leavesTable_setClock c).tellChord]
    (repeat' split) <;> rfl
  · simp only [takeHoldEnd, found]
    (repeat' split) <;> rfl
  · simp only [takeGrace, found]
    (repeat' split) <;> rfl
  · simp only [takeForced, record]
    (repeat' split) <;> rfl

theorem foldThresholds_setClock (c : SongClock) (xs : List Threshold) (s : State) :
    xs.foldl takeThreshold (s.setClock c) = (xs.foldl takeThreshold s).setClock c := by
  induction xs generalizing s with
  | nil => rfl
  | cons x xs ih => rw [List.foldl_cons, takeThreshold_setClock, ih, List.foldl_cons]

/-- The clock a mark's step leaves once its slot is emptied, in the statements' words (R22, R25, R27, R29). -/
def SongClock.marked (c : SongClock) (target : Nat × Nat) : SongClock :=
  { c with
    tick := target.1, phase := target.2, markPending := false, nextMark := nextMarkAfter target.1,
    saturated := c.saturated || target.1 == 16777215,
    slip := c.slip || decide (640 < (target.1 * 20 + target.2) - (c.tick * 20 + c.phase)) }

theorem markTarget_eq (m : Nat) : markTarget m = if 16777215 ≤ m + 2 then (16777215, 0) else (m + 2, 9) := rfl

/-- A target at the limit has phase 0, so saturation takes nothing from it (R22, R27). -/
theorem SongClock.stepTo_settled (c : SongClock) (m : Nat) :
    let t := c.stepTo (markTarget m)
    ({ t with markPending := false, nextMark := nextMarkAfter t.tick } : SongClock) = c.marked (markTarget m) := by
  have limit : maxTick = 16777215 := rfl
  rw [markTarget_eq]
  by_cases full : 16777215 ≤ m + 2
  · rw [if_pos full]
    simp [stepTo, saturate, limit, marked, inCells, Config.cellsPerTick, slipCells]
  · have below : m + 2 ≠ 16777215 := by omega
    rw [if_neg full]
    simp [stepTo, limit, below, marked, inCells, Config.cellsPerTick, slipCells]
    exact ⟨fun h => absurd h (by omega), rfl⟩

theorem takeThresholds_setClock (c : SongClock) (old new : Nat) (s : State) :
    takeThresholds old new (s.setClock c) = (takeThresholds old new s).setClock c := by
  unfold takeThresholds
  split
  · rw [if_pos (by assumption)]
    exact foldThresholds_setClock c _ s
  · rw [if_neg (by assumption)]

/-- The end of a mark that moved the tick: DONE examined, the slot emptied, Station Control told (R25, R117, R119, R120). -/
theorem heardFrame_settled {w : State} (c : SongClock) (station : w.station = s.station) (settings : w.settings = s.settings)
    (new : w.queue.pendingInsertion = none) : heardFrame (settleMark (examineDone (w.setClock c))) = { w with
      clock := { c with markPending := false, nextMark := nextMarkAfter c.tick }
      station := if s.station.state = .playing ∧ s.station.endTime ≤ s.adjust c.tick ∧ w.queue.entries = [] ∧
        w.reports = [] ∧ w.chords = [] then { s.station with state := .done, silence := none } else s.stationAfterHeard
      lamp := w.lampAfterHeard } := by
  have adj : (w.setClock c).adjClock = s.adjust c.tick := by simp only [State.adjClock, State.adjust, State.setClock, settings]
  rw [examineDone_eq, adj]
  simp only [State.setClock_station, State.setClock_queue, State.setClock_reports, State.setClock_chords, station, new, true_and]
  split
  · rename_i done
    simp [settleMark, heardFrame, State.lampAfterHeard, station, done.1, State.setClock]
  · rw [heardFrame_eq]
    simp only [State.stationAfterHeard, settleMark, State.setClock, State.setStation, State.setLamp, State.lampAfterHeard, station]

/-- The end of a mark behind the step and the thresholds that left `taken` (R117, R119, R120). -/
def State.markEnd (s taken : State) (goal : Nat × Nat) : State := { taken with
  station := if s.clock.tick < goal.1 ∧ s.station.state = .playing ∧ s.station.endTime ≤ s.adjust goal.1 ∧
    taken.queue.entries = [] ∧ taken.reports = [] ∧ taken.chords = [] then { s.station with state := .done, silence := none }
    else s.stationAfterHeard
  lamp := taken.lampAfterHeard }

/-- A mark later than the clock, at its end-of-frame. -/
theorem heardFrame_takeMark {m : Nat} (behind : earlier (s.clock.tick, s.clock.phase) (markTarget m) = true) :
    heardFrame (takeMark m s.freed) = s.markEnd ((if s.clock.tick < (markTarget m).1 then
      takeThresholds (s.adjust s.clock.tick) (s.adjust (markTarget m).1) s.freed else s.freed).setClock
        (s.clock.marked (markTarget m))) (markTarget m) := by
  have settled := SongClock.stepTo_settled s.clock m
  have stopsAt : (s.clock.stepTo (markTarget m)).tick = (markTarget m).1 := SongClock.stepTo_tick _ _
  have forward : correctForward m s.freed = if s.clock.tick < (markTarget m).1 then
      examineDone (takeThresholds (s.adjust s.clock.tick) (s.adjust (markTarget m).1)
        (s.freed.setClock (s.clock.stepTo (markTarget m))))
      else s.freed.setClock (s.clock.stepTo (markTarget m)) := if_pos behind
  dsimp only at settled
  rw [takeMark, forward]
  by_cases moved : s.clock.tick < (markTarget m).1
  · have judged := (State.judgedTo.refl s.freed).takeThresholds (s.adjust s.clock.tick) (s.adjust (markTarget m).1)
    rw [if_pos moved, if_pos moved, takeThresholds_setClock,
      heardFrame_settled (s := s) _ (by simp) (by simp) (by rw [judged.queue]; simp), stopsAt]
    rw [stopsAt] at settled
    simp only [State.markEnd, moved, true_and, settled]
    rfl
  · rw [if_neg moved, if_neg moved, heardFrame_eq]
    simp only [State.markEnd, moved, false_and, if_false, ← settled]
    rfl

end Sys2Proof.Machine

namespace Sys2Proof.Proofs

open Sys2Proof.Machine

/-- Settles O23: the slot can be emptied before the thresholds as well as behind them, since they take no part of the clock. -/
theorem markHeard : Obligations.MarkHeard := by
  intro s f hears
  have target : (if 16777215 ≤ f.tick.toNat + 2 then (16777215, 0) else (f.tick.toNat + 2, 9)) = markTarget f.tick.toNat := rfl
  refine ⟨fun stopped => ?_, fun running ahead => ?_, fun running behind => ?_⟩
  · exact congrArg _ (heard_refused hears nofun (by simpa [accepts] using stopped))
  · have heard : exec (.mark f .whole) s = .next (heardFrame (takeMark f.tick.toNat s.freed)) :=
      congrArg _ (heard_accepted hears nofun running)
    have notEarlier : earlier (s.freed.clock.tick, s.freed.clock.phase) (markTarget f.tick.toNat) = false := by
      rw [← Bool.not_eq_true, earlier_iff]
      exact ahead
    rw [heard, takeMark, correctForward, if_neg (by rw [notEarlier]; exact Bool.false_ne_true), heardFrame_eq]
    rfl
  · have heard : exec (.mark f .whole) s = .next (heardFrame (takeMark f.tick.toNat s.freed)) :=
      congrArg _ (heard_accepted hears nofun running)
    rw [heard, heardFrame_takeMark ((earlier_iff _ _).mpr behind), target]
    generalize markTarget f.tick.toNat = goal
    have taken : (if s.clock.tick < goal.1 then takeThresholds (s.adjust s.clock.tick) (s.adjust goal.1) s.freed
        else s.freed).setClock (s.clock.marked goal) =
        if s.clock.tick < goal.1 ∧ (s.station.state = .playing ∨ s.station.state = .lost) then
          (passed (s.adjust s.clock.tick) (s.adjust goal.1) s).foldl takeThreshold (s.freed.setClock (s.clock.marked goal))
        else s.freed.setClock (s.clock.marked goal) := by
      by_cases forward : s.clock.tick < goal.1
      · rw [if_pos forward, ← takeThresholds_setClock, takeThresholds]
        simp only [forward, true_and, ← StationState.judges_iff]
        rfl
      · rw [if_neg forward, if_neg (fun h => forward h.1)]
    exact congrArg (fun v => Host.Outcome.next (s.markEnd v goal)) taken

end Sys2Proof.Proofs

/-! ## START, settings and lamps -/

namespace Sys2Proof.Machine

variable {s : State}

/-! ### What is accepted -/

theorem addressed_iff (target : Byte) (s : State) : addressed target s = true ↔ target.toNat = s.address ∧ s.settings.job = none := by
  simp [addressed]

theorem acceptsSetup_iff (target : Byte) (s : State) : acceptsSetup target s = true ↔
    target.toNat = s.address ∧ s.settings.job = none ∧ s.station.state = .idle := by
  simp [acceptsSetup, addressed, and_assoc]

theorem acceptsStart_iff (f : StartFrame) (s : State) : acceptsStart f s = true ↔
    s.station.state = .idle ∧ f.startTime.toNat < f.endTime.toNat := by
  simp [acceptsStart]

/-- A frame heard takes the pattern only from LOST (R119). -/
theorem lampAfterHeard_eq (s : State) : s.lampAfterHeard =
    { s.lamp with pattern := if s.station.state = .lost then .noPattern else s.lamp.pattern } := by
  cases h : s.station.state <;> simp [State.lampAfterHeard, h]

theorem heardFrame_idle (idle : s.station.state = .idle) : heardFrame s = s := by simp [heardFrame, idle]

/-! ### START -/

theorem clampNat_eq (lo hi n : Nat) : clampNat lo hi n = max lo (min hi n) := rfl

/-- The queue at START, in the statements' words (R44, R45). -/
theorem purged_eq (w stop adj : Nat) (q : NoteQueue) :
    let stale := fun e : NoteEntry => decide (e.due + w + 4 < adj) || decide (stop < e.due)
    purged w stop adj q = { q with
      entries := q.entries.filter fun e => !stale e, staleCount := min 255 (q.entries.countP stale), lastRefusal := .noRefusal } := by
  intro stale
  have count : q.entries.length - (q.entries.filter fun e => !stale e).length = q.entries.countP stale := by
    have := List.length_eq_countP_add_countP stale (l := q.entries)
    have kept : (q.entries.filter fun e => !stale e).length = q.entries.countP (fun e => decide ¬stale e = true) := by
      rw [← List.countP_eq_length_filter]
      congr 1
      funext e
      cases stale e <;> rfl
    omega
  rw [← count]
  rfl

/-! ### WRITE -/

/-- A zone whose flag goes from `was` to `on` (R4). -/
theorem setFlag_eq (was on : Bool) (z : ZoneRecord) : z.setFlag was on =
    if was = on then z
    else if on then { z with condition := .healthy, baseline := z.raw, railCount := 0, insideCount := 0 }
    else { z with condition := .off, railCount := 0, insideCount := 0 } := by
  cases was <;> cases on <;> rfl

theorem get_zoneFlags (n : Nat) (i : Fin 4) : (zoneFlags n).get i = n.testBit i.val := by
  match i with
  | 0 | 1 | 2 | 3 => rfl

theorem get_updateZones (old new : Nat) (zones : Quad ZoneRecord) (i : Fin 4) : (updateZones old new zones).get i =
    (zones.get i).setFlag (old.testBit i.val) (new.testBit i.val) := by
  simp [updateZones, get_zoneFlags]

end Sys2Proof.Machine

namespace Sys2Proof.Proofs

open Sys2Proof.Machine

/-- Settles O42. -/
theorem startHeard : Obligations.StartHeard := by
  intro s f hears
  refine ⟨fun refused => ?_, fun idle before => ?_⟩
  · refine congrArg _ (heard_refused hears nofun fun accepted => ?_)
    obtain ⟨idle, before⟩ := (acceptsStart_iff f s).mp accepted
    rcases refused with other | behind
    · exact other idle
    · exact Nat.not_lt.mpr behind before
  · have heard : exec (.start f .whole) s = .next (heardFrame (takeStart f s.freed)) :=
      congrArg _ (heard_accepted hears nofun ((acceptsStart_iff f s).mpr ⟨idle, before⟩))
    have lamp : s.lampAfterHeard = s.lamp := by simp [State.lampAfterHeard, idle]
    have restamp (d : Detector) (tick : Nat) : d.restamp tick = match d with
        | .pressing _ => .pressing tick
        | .releasing _ n => .releasing tick n
        | d => d := by cases d <;> rfl
    rw [heard, takeStart, purged_eq, heardFrame_eq, restamp]
    simp only [State.afterHeard, lamp]
    rfl

/-- Settles O45. -/
theorem writeHeard : Obligations.WriteHeard := by
  intro s f hears
  refine ⟨fun other => congrArg _ (heard_refused hears nofun (mt (acceptsSetup_iff f.target s).mp other)), ?_⟩
  have heard (mine : f.target.toNat = s.address ∧ s.settings.job = none ∧ s.station.state = .idle) :
      exec (.write f .whole) s = .next (takeWrite f.field.toNat f.value s.freed) ∧ s.afterHeard = s.freed := by
    refine ⟨?_, by rw [← heardFrame_freed, heardFrame_idle (by simpa using mine.2.2)]⟩
    rw [← heardFrame_idle (s := takeWrite f.field.toNat f.value s.freed) (by simpa using mine.2.2)]
    exact congrArg _ (heard_accepted hears nofun ((acceptsSetup_iff f.target s).mpr mine))
  refine ⟨fun mine field => ?_, fun mine field => ?_, fun mine field => ?_, fun mine field => ?_, fun i mine field => ?_,
    fun i mine field => ?_⟩ <;> obtain ⟨written, same⟩ := heard mine <;> rw [written, field, same]
  · rfl
  · rfl
  · exact ⟨_, rfl, rfl, fun i => (get_updateZones _ _ _ i).trans (setFlag_eq _ _ _)⟩
  · rfl
  · match i with
    | 0 | 1 | 2 | 3 => rfl
  · match i with
    | 0 | 1 | 2 | 3 => rfl

/-- Settles O46. -/
theorem storeRestartQueryHeard : Obligations.StoreRestartQueryHeard := by
  intro s target page p
  have setup := acceptsSetup_iff target s
  refine ⟨fun hears => ⟨fun ⟨⟨mine, free⟩, idle⟩ => ?_, fun other => ?_⟩,
    fun hears => ⟨fun ⟨⟨mine, free⟩, idle⟩ => ?_, fun other => ?_⟩, fun hears => ⟨fun mine => ?_, fun other => ?_⟩⟩
  · have heard : exec (.store target .whole) s = .next (heardFrame (beginStore s.freed)) :=
      congrArg _ (heard_accepted hears nofun (setup.mpr ⟨mine, free, idle⟩))
    rw [heard, heardFrame_eq]
    rfl
  · exact congrArg _ (heard_refused hears nofun (mt setup.mp (by simpa [and_assoc] using other)))
  · have heard : exec (.restart target p .whole) s = .next (heardFrame (resetStation p s.freed)) :=
      congrArg _ (heard_accepted hears nofun (setup.mpr ⟨mine, free, idle⟩))
    have settings : (abandonStore s.freed) = s.freed := by simp [abandonStore, free]
    rw [heard, heardFrame_eq, resetStation, settings]
    rfl
  · exact congrArg _ (heard_refused hears nofun (mt setup.mp (by simpa [and_assoc] using other)))
  · have heard : exec (.query ⟨target, page⟩ .whole) s = .next (heardFrame (takeQuery ⟨target, page⟩ s.freed)) :=
      congrArg _ (heard_accepted hears nofun ((addressed_iff target s).mpr mine))
    rw [heard, heardFrame_eq]
    rfl
  · exact congrArg _ (heard_refused hears nofun (mt (addressed_iff target s).mp other))

/-- Settles O57. -/
theorem lampHeard : Obligations.LampHeard := by
  intro s f
  refine ⟨fun hears => ⟨fun targeted => ?_, fun other => ?_⟩, fun hears => ⟨fun targeted => ?_, fun other => ?_⟩⟩
  · have heard : exec (.lamp f .whole) s = .next (heardFrame (takeLamp f false s.freed)) :=
      congrArg _ (heard_accepted hears nofun targeted)
    rw [heard, heardFrame_eq, takeLamp, lampAfterHeard_eq, lampAfterHeard_eq]
    cases layer : f.layer <;> simp only [setLayer] <;> rfl
  · exact congrArg _ (heard_refused hears nofun (by simpa [accepts, lampTargets] using other))
  · have heard : exec (.clearLatch f .whole) s = .next (heardFrame (takeLamp f true s.freed)) :=
      congrArg _ (heard_accepted hears nofun targeted)
    refine ⟨_, heard, ?_, fun i => ?_⟩
    · rw [heardFrame_eq, takeLamp, lampAfterHeard_eq, lampAfterHeard_eq]
      cases layer : f.layer <;> simp only [setLayer] <;> rfl
    · rw [heardFrame_eq, takeLamp, lampAfterHeard_eq]
      cases layer : f.layer <;> simp [setLayer, clearLatches]
  · exact congrArg _ (heard_refused hears nofun (by simpa [accepts, lampTargets] using other))

end Sys2Proof.Proofs

/-! ## Lamps -/

namespace Sys2Proof.Machine

/-! ### A channel at the end of a period -/

theorem Channel.endPeriod_idle {c : Channel} (x : ChannelSense) (dark : c.duty < 64) : c.endPeriod x = c := by
  rw [endPeriod, if_neg (show ¬diagnosticLevel ≤ c.duty from Nat.not_le.mpr dark)]

/-- A measured period: the run against the open flag, and the latch of an over-current (R175, R176). -/
theorem Channel.endPeriod_measured {c : Channel} (x : ChannelSense) (lit : 64 ≤ c.duty) : c.endPeriod x =
    if x.current = c.openFlag then
      if 7 ≤ c.runCount then
        { c with openFlag := !c.openFlag, runCount := 0, shortLatch := c.shortLatch || x.overCurrent }
      else { c with runCount := c.runCount + 1, shortLatch := c.shortLatch || x.overCurrent }
    else { c with runCount := 0, shortLatch := c.shortLatch || x.overCurrent } := by
  rw [endPeriod, if_pos (show diagnosticLevel ≤ c.duty from lit)]
  by_cases against : x.current = c.openFlag
  · by_cases full : 7 ≤ c.runCount
    · simp [runOn, reachOpen, against, full]
    · simp [runOn, reachOpen, against, full]
  · simp [runOn, against]

theorem Channel.startPeriod_fields (duty : Nat) (c : Channel) : (c.startPeriod duty).openFlag = c.openFlag ∧
    (c.startPeriod duty).runCount = c.runCount ∧ (c.startPeriod duty).shortLatch = c.shortLatch ∧
    (c.startPeriod duty).duty = if c.shortLatch then 0 else duty := ⟨rfl, rfl, rfl, rfl⟩

theorem get_dutiesNow (s : State) (i : Fin 4) :
    s.dutiesNow.get i = if s.sense.sampleTimer = none then 0 else (composed s).get i := by
  cases timer : s.sense.sampleTimer <;> simp [State.dutiesNow, State.loaded, timer]

/-! ### The layers -/

theorem LampUnit.firstHalf_iff (l : LampUnit) : l.firstHalf = true ↔ l.patternTimer < 20000 := decide_eq_true_iff

/-- The duties of a flash in the colour of a result (R173). -/
theorem duties_flashColour (r : JudgeResult) (k m : Nat) : (Flash.mk (flashColour r) k m).duties =
    let duty := 4095 * k / 16
    match r with
      | .grade .exact => ⟨0, 0, 0, duty⟩
      | .grade .tight => ⟨0, duty, duty, 0⟩
      | .grade .near => ⟨0, duty, 0, 0⟩
      | .grade .wide => ⟨duty, duty, 0, 0⟩
      | .grade .miss => ⟨duty, 0, 0, 0⟩
      | .hold .ok => ⟨0, 0, duty, 0⟩
      | .hold .ng => ⟨duty, 0, duty, 0⟩ := by
  rcases r with (_ | _ | _ | _ | _) | (_ | _) <;> simp [Flash.duties, flashColour, Quad.map]

end Sys2Proof.Machine

namespace Sys2Proof.Proofs

open Sys2Proof.Machine

/-- Settles O58: each channel is `Channel.endPeriod`, then `Channel.startPeriod`. -/
theorem pwmPeriods : Obligations.PwmPeriods := by
  refine ⟨fun s sensed powered => ⟨pwmBoundary sensed s, congrArg _ (whenPowered_eq s _ powered), rfl, fun i => ?_⟩,
    fun s i powered full => ⟨s.setLamp { s.lamp with channels := s.lamp.channels.modify i Channel.reachOpen },
      by simp only [exec, execOpenFlag, whenPowered_eq s _ powered], rfl, ?_, fun k other => ?_⟩⟩
  · have channel : (pwmBoundary sensed s).lamp.channels.get i =
        ((s.lamp.channels.get i).endPeriod (sensed.get i)).startPeriod (s.dutiesNow.get i) := by
      simp [pwmBoundary]
    rw [channel]
    generalize s.lamp.channels.get i = c
    generalize sensed.get i = x
    simp only [Channel.startPeriod_fields, get_dutiesNow]
    refine ⟨fun dark => ?_, fun lit => ?_, fun lit against => ?_, fun lit against few => ?_, fun lit against many => ?_, ?_⟩
    · rw [Channel.endPeriod_idle x dark]
      exact ⟨rfl, rfl, rfl⟩
    · rw [Channel.endPeriod_measured x lit]
      (repeat' split) <;> rfl
    · rw [Channel.endPeriod_measured x lit, if_neg against]
      exact ⟨rfl, rfl⟩
    · rw [Channel.endPeriod_measured x lit, if_pos against, if_neg (Nat.not_le.mpr few)]
      exact ⟨rfl, rfl⟩
    · rw [Channel.endPeriod_measured x lit, if_pos against, if_pos many]
      exact ⟨rfl, rfl⟩
    · cases (c.endPeriod x).shortLatch <;> simp
  · simp [Quad.get_modify, Channel.reachOpen, full]
  · simp [Quad.get_modify, other]

/-- Settles O59. -/
theorem lampsComposed : Obligations.LampsComposed := by
  intro s
  have half := s.lamp.firstHalf_iff
  refine ⟨fun pattern first => ?_, fun pattern second => ?_, fun pattern first => ?_, fun pattern second => ?_,
    fun pattern => ?_, fun pattern => ?_, fun r k m pattern flash some most => ?_, fun pattern flash =>
      ⟨fun down => ?_, fun up => ?_⟩⟩
  · simp [composed, pattern, half.mpr first]
  · have no : s.lamp.firstHalf = false := Bool.eq_false_iff.mpr (mt half.mp (Nat.not_lt.mpr second))
    simp [composed, pattern, no, Quad.fill]
  · simp [composed, pattern, half.mpr first]
  · have no : s.lamp.firstHalf = false := Bool.eq_false_iff.mpr (mt half.mp (Nat.not_lt.mpr second))
    simp [composed, pattern, no]
  · simp only [composed, pattern]
  · simp only [composed, pattern]
  · refine ⟨by omega, ?_⟩
    simp only [composed, pattern, flash]
    exact duties_flashColour r k m
  · have on : s.sense.detector.down = true := by rcases down with h | ⟨k, n, h⟩ <;> rw [h] <;> rfl
    simp [composed, pattern, flash, on]
  · have off : s.sense.detector.down = false := by rcases up with h | ⟨k, h⟩ <;> rw [h] <;> rfl
    simp [composed, pattern, flash, off]

end Sys2Proof.Proofs

/-! ## The line -/

namespace Sys2Proof.Machine

variable {s : State}

/-! ### The acknowledge cell -/

theorem followsLine_iff (s : State) : s.followsLine = true ↔ s.station.state ≠ .startup := by
  simp [State.followsLine]

theorem followsLine_of_examines (h : s.station.state.examines = true) : s.followsLine = true := by
  rw [followsLine_iff]
  rintro startup
  rw [startup] at h
  cases h

/-- A frame heard at its acknowledge cell is decided on (R139). -/
theorem reachAck_hears {f : Frame} (hears : s.hears f = true) (ahead : Bool) : reachAck ahead f s = decideFrame ahead f s := by
  obtain ⟨-, examines, follows, formed, other⟩ := (s.hears_iff f).mp hears
  rw [reachAck, if_pos (followsLine_of_examines examines), if_pos (by simp [examines, follows, formed]), if_neg other]

/-- A pending insertion is made exactly for an accepted NOTE (R43). -/
theorem insertionOf_isSome (ahead : Bool) (f : Frame) (s : State) :
    (insertionOf ahead f s).isSome = true ↔ accepts ahead f s = true ∧ ∃ n, f = .note n := by
  cases f with
  | note n =>
    simp only [insertionOf, accepts, Frame.note.injEq, exists_eq', and_true]
    cases noteVerdict ahead n s with
    | none => simp
    | some v => cases v <;> simp
  | _ => simp [insertionOf]

theorem accepts_note {ahead : Bool} {n : NoteFrame} (h : accepts ahead (.note n) s = true) :
    n.target.toNat = s.address ∧ s.settings.job = none := by
  rw [← addressed_iff]
  by_contra other
  simp [accepts, noteVerdict, other] at h

/-- A duplicate floor address at the acknowledge cell (R146). -/
theorem reachAck_duplicate {f : Frame} (examines : s.station.state.examines = true) (follows : s.line.mayFollow = true)
    (formed : f.wellFormed = true) (own : f.sender = some s.headerAddress) (ahead : Bool) :
    reachAck ahead f s = enterFault .duplicate s := by
  rw [reachAck, if_pos (followsLine_of_examines examines), if_pos (by simp [examines, follows, formed]), if_pos own]

/-- FAULT with cause DUPLICATE entered: the song's blocks emptied, the line released (R123, R171). -/
def State.Faulted (s t : State) : Prop :=
  t = { s with station := { s.station with state := .fault, cause := .duplicate, silence := none }
               lamp := { s.lamp with pattern := .faultDuplicate, patternTimer := 0 }
               clock := { s.clock with running := false, markPending := false }
               queue := { s.queue with entries := [], pendingInsertion := none }
               chords := [], reports := [], line := t.line } ∧
    t.line.statusSlot = none ∧ t.line.inFlight = none ∧ t.line.assembly = none ∧ t.line.decision = none

theorem faulted_enterFault (s : State) : s.Faulted (enterFault .duplicate s) := ⟨rfl, rfl, rfl, rfl, rfl⟩

/-! ### The end of an own frame -/

/-- An own frame at its end (R142, R146). -/
theorem endOwnFrame_eq {src : Source} {ending : OwnEnd} {complete : Latch → State → State} {f : InFlight} {l : Latched}
    (sending : s.line.state = .sending) (flying : s.line.inFlight = some f) (source : f.source = src)
    (latched : f.latched = some l) : endOwnFrame src ending complete s =
      if f.mismatch = true ∨ ending.mismatch = true then enterFault .duplicate s
      else tellAcknowledged ending.acked (complete l.content (ownFrameEnded s)) := by
  simp only [endOwnFrame, sending, flying, source, latched, if_true, noteMismatch, Bool.or_eq_true]

/-- Station Control told of an own frame if it was acknowledged, as the blocks it writes. -/
theorem tellAcknowledged_eq (acked : Bool) (s : State) : tellAcknowledged acked s = { s with
    station := if acked then s.stationAfterHeard else s.station, lamp := if acked then s.lampAfterHeard else s.lamp } := by
  cases acked
  · rfl
  · simp only [tellAcknowledged, if_true, heardFrame_eq]
    rfl

/-- An abort, as the blocks it writes (R97, R145). -/
theorem abortFrame_eq (high : Nat) (s : State) : abortFrame high s = { s with
    queue := { s.queue with pendingInsertion := none }
    reports := if (evictedKey s).isSome then s.reports.tail else s.reports
    line := s.line.released high false } := by
  rw [← dropEvicted_reports_eq]
  refine State.blocks_ext ?_ ?_ ?_ ?_ ?_ ?_ ?_ ?_ ?_ ?_ ?_ ?_ ?_ ?_ ?_ <;> simp [abortFrame]

/-! ### The closing decision -/

theorem gradeRank_worst (a b : Grade) : gradeRank (worst a b) = max (gradeRank a) (gradeRank b) := by
  unfold worst
  split <;> omega

/-- The worst of a grade and those of reports is one of them, and none is worse (R80). -/
theorem foldl_worst (reports : List (Nat × Grade)) (own : Grade) :
    let g := reports.foldl (fun g p => worst g p.2) own
    (g = own ∨ ∃ p ∈ reports, g = p.2) ∧ gradeRank own ≤ gradeRank g ∧ ∀ p ∈ reports, gradeRank p.2 ≤ gradeRank g := by
  induction reports generalizing own with
  | nil => simp
  | cons p ps ih =>
    obtain ⟨among, least, all⟩ := ih (worst own p.2)
    rw [gradeRank_worst] at least
    refine ⟨?_, by rw [List.foldl_cons]; omega, fun q mem => ?_⟩
    · rcases among with joined | ⟨q, mem, same⟩
      · rw [List.foldl_cons, joined]
        unfold worst
        split
        · exact .inr ⟨p, by simp, rfl⟩
        · exact .inl rfl
      · exact .inr ⟨q, by simp [mem], same⟩
    · rcases List.mem_cons.mp mem with rfl | mem
      · rw [List.foldl_cons]; omega
      · exact all q mem

theorem ChordRecord.complete_iff (r : ChordRecord) : r.complete = true ↔ ∀ a ∈ r.expected, ∃ g, (a, g) ∈ r.reports := by
  simp [complete]

end Sys2Proof.Machine

namespace Sys2Proof.Proofs

open Sys2Proof.Machine

/-- Settles O47. -/
theorem acknowledgeDecided : Obligations.AcknowledgeDecided := by
  intro s c f frame hears
  obtain ⟨effect, points⟩ := exec_atPoint frame
  have reached : exec (c.atPoint .ackCell) s = .next (decideFrame true f s) := by
    rw [points, whenPowered_eq s _ ((s.hears_iff f).mp hears).1, receive, reachAck_hears hears]
  refine ⟨_, decisionOf true f s, reached, rfl, rfl, insertionOf_isSome true f s, ?_⟩
  cases f with
  | start q => exact acceptsStart_iff q s
  | note n => exact accepts_note
  | write w => exact acceptsSetup_iff w.target s
  | store a => exact acceptsSetup_iff a s
  | restart a => exact acceptsSetup_iff a s
  | query q => exact addressed_iff q.target s
  | stop => exact ((s.hears_iff _).mp hears).2.1
  | _ => rfl

/-- Settles O48: both ways lead to `enterFault .duplicate`. -/
theorem duplicateAddressFaults : Obligations.DuplicateAddressFaults := by
  refine ⟨fun s c f p frame notEnd powered examines follows formed own => ?_,
    fun s f l ending powered sending flying latched mismatch => ?_⟩
  · obtain ⟨effect, points⟩ := exec_atPoint frame
    have reached : exec (c.atPoint p) s = .next (enterFault .duplicate s) := by
      rw [points, whenPowered_eq s _ powered]
      cases p with
      | ackCell => rw [receive, reachAck_duplicate examines follows formed own]
      | endOfFrame => exact absurd rfl notEnd
      | whole => rw [receive, reachAck_duplicate examines follows formed own]; rfl
    exact ⟨_, reached, faulted_enterFault s⟩
  · have ends {src : Source} (source : f.source = src) (complete : Latch → State → State) :
        whenPowered s (endOwnFrame src ending complete) = enterFault .duplicate s := by
      rw [whenPowered_eq s _ powered, endOwnFrame_eq sending flying source latched, if_pos mismatch]
    have report (source : f.source = .report) : exec (.judgeSent ending) s = .next (enterFault .duplicate s) :=
      congrArg Host.Outcome.next (ends source completeReport)
    have mark (source : f.source = .mark) : exec (.markSent ending) s = .next (enterFault .duplicate s) :=
      congrArg Host.Outcome.next (ends source fun _ s => settleMark s)
    have status (source : f.source = .status) : exec (.statusSent ending) s = .next (enterFault .duplicate s) :=
      congrArg Host.Outcome.next (ends source fun _ s => s.setLine { s.line with statusSlot := none })
    exact ⟨fun source => ⟨_, mark source, faulted_enterFault s⟩, fun source => ⟨_, report source, faulted_enterFault s⟩,
      fun source => ⟨_, status source, faulted_enterFault s⟩⟩

/-- Settles O52. -/
theorem closingDecided : Obligations.ClosingDecided := by
  intro e own s r
  refine ⟨fun single => ?_, fun chord closed => ?_, fun chord opened found held => ⟨fun all => ?_, fun missing => ?_⟩,
    fun chord opened noRecord => ?_⟩
  · simp [closingDecision, single]
  · simp [closingDecision, chord, closed]
  · have complete := r.complete_iff.mpr all
    refine ⟨r.grade own, by simp [closingDecision, chord, opened, found, complete], ?_⟩
    rw [ChordRecord.grade, held]
    exact foldl_worst r.reports own
  · have incomplete : r.complete = false := by
      rw [← Bool.not_eq_true, r.complete_iff]
      obtain ⟨a, mem, unheard⟩ := missing
      exact fun all => (all a mem).elim unheard
    simp [closingDecision, chord, opened, found, incomplete]
  · simp [closingDecision, chord, opened, noRecord]

/-- Settles O53. -/
theorem markAndStatusSent : Obligations.MarkAndStatusSent := by
  intro s f l acked powered sending flying latched noMismatch
  have ends {src : Source} (source : f.source = src) (complete : Latch → State → State) :
      whenPowered s (endOwnFrame src ⟨acked, false⟩ complete) = tellAcknowledged acked (complete l.content (ownFrameEnded s)) := by
    rw [whenPowered_eq s _ powered, endOwnFrame_eq sending flying source latched, if_neg (by simp [noMismatch])]
  refine ⟨fun source => ?_, fun source => ?_⟩ <;> refine congrArg Host.Outcome.next ((ends source _).trans ?_) <;>
    rw [tellAcknowledged_eq] <;> rfl

/-- Settles O54. -/
theorem lineEvents : Obligations.LineEvents := by
  refine ⟨fun s powered working => ?_, fun s powered working => ?_⟩
  · have follows := (followsLine_iff s).mpr working
    refine ⟨fun between noAssembly noDecision noFrame => ?_, fun free => ?_, fun a receiving assembly began undecided => ?_,
      fun broken => ?_⟩
    · have awaits : s.line.awaitsGap = true := by
        rcases between with h | h <;>
          simp [LineController.awaitsGap, h, LineController.busyWithFrame, noAssembly, noDecision, noFrame]
      have reached : idleGap ≤ min yieldGap (max idleGap s.line.highCount) := by simp only [idleGap, yieldGap]; omega
      have gap : exec .idleGap s = .next (s.setLine (s.line.countHigh (max idleGap s.line.highCount))) := by
        simp only [exec, execIdleGap, whenPowered_eq s _ powered, follows, awaits, Bool.and_self, if_true]
      rw [gap, LineController.countHigh, awaits, decide_eq_true reached]
      rfl
    · simp only [exec, execRunt, whenPowered_eq s _ powered, follows, free, if_true]
      rfl
    · have low : (s.line.decision.isNone && s.line.assembly.all fun a => a.cells == 0) = true := by
        simp [undecided, assembly, began]
      simp only [exec, execRunt, whenPowered_eq s _ powered, follows, receiving, low, if_true]
      rfl
    · have edge : (s.followsLine && s.line.state == .lineBreak) = true := by simp [follows, broken]
      simp only [exec, execLineBreakFallingEdge, whenPowered_eq s _ powered, edge, if_true]
      rfl
  · have follows := (followsLine_iff s).mpr working
    refine ⟨fun unbroken => ?_, fun unbroken => ?_, ?_, fun w d discarded may => ?_⟩
    · have aborts : exec .longLow s = .next (abortFrame 0 s) := by
        simp only [exec, execLongLow, whenPowered_eq s _ powered, follows, if_true]
      rw [aborts, abortFrame_eq]
      rfl
    · have timesOut : (s.followsLine && s.line.state != .lineBreak) = true := by simp [follows, unbroken]
      simp only [exec, execFrameTimeout, whenPowered_eq s _ powered, timesOut, if_true, abortFrame_eq]
      rfl
    · simp only [exec, execLineBreak, whenPowered_eq s _ powered, follows, if_true, abortFrame_eq]
      rfl
    · have unread : (s.followsLine && isDiscarded w) = true := by simp [follows, isDiscarded, discarded]
      have unbroken : s.line.state ≠ .lineBreak := by
        rintro broken
        simp [LineController.mayFollow, broken] at may
      simp only [exec, execFrameDiscarded, whenPowered_eq s _ powered, unread, if_true, heardUnread, unbroken, if_false, may]
      rfl

end Sys2Proof.Proofs

/-! ## The contest on the header, and the start of a frame -/

namespace Sys2Proof

/-! ### Arbitration -/

theorem getMsbD_eq_testBit (h : Byte) (i : Nat) : h.getMsbD i = (decide (i < 8) && h.toNat.testBit (7 - i)) := by
  rw [BitVec.getMsbD_eq_getLsbD, BitVec.testBit_toNat]

/-- A header with a 0 where another with the same bits before it has a 1 is the lower. -/
theorem toNat_lt_of_bits {k m : Byte} {i : Nat} (here : i < 8) (before : ∀ j < i, k.getMsbD j = m.getMsbD j)
    (zero : k.getMsbD i = false) (one : m.getMsbD i = true) : k.toNat < m.toNat := by
  simp only [getMsbD_eq_testBit, here, decide_true, Bool.true_and] at zero one
  refine Nat.lt_of_testBit (7 - i) zero one fun j above => ?_
  by_cases inside : j < 8
  · have same := before (7 - j) (by omega)
    simpa [getMsbD_eq_testBit, show 7 - j < 8 by omega, show 7 - (7 - j) = j by omega] using same
  · have outside (h : Byte) : h.toNat.testBit j = false :=
      Nat.testBit_lt_two_pow (h.isLt.trans_le (Nat.pow_le_pow_right (by decide) (by omega)))
    rw [outside, outside]

/-- The headers still driving before a cell: those that agree so far with the lowest, which is one of them. -/
structure Driving (lowest : Byte) (i : Nat) (driving : List Byte) : Prop where
  mem : lowest ∈ driving
  agree : ∀ k ∈ driving, ∀ j < i, k.getMsbD j = lowest.getMsbD j
  least : ∀ k ∈ driving, lowest.toNat ≤ k.toNat

/-- The line reads the bit of the lowest header (R131). -/
theorem Driving.lineBit {lowest : Byte} {i : Nat} {driving : List Byte} (h : Driving lowest i driving) (here : i < 8) :
    lineBit i driving = lowest.getMsbD i := by
  cases bit : lowest.getMsbD i with
  | false =>
    refine List.all_eq_false.mpr ⟨lowest, h.mem, ?_⟩
    rw [bit]
    exact Bool.false_ne_true
  | true =>
    refine List.all_eq_true.mpr fun k mem => ?_
    by_contra zero
    have lower := toNat_lt_of_bits here (h.agree k mem) (by simpa using zero) bit
    exact Nat.not_lt.mpr (h.least k mem) lower

/-- The transmitters that go on after a cell (R136). -/
theorem Driving.next {lowest : Byte} {i : Nat} {driving : List Byte} (h : Driving lowest i driving) (here : i < 8) :
    Driving lowest (i + 1) (driving.filter fun k => !k.getMsbD i || Sys2Proof.lineBit i driving) where
  mem := by
    rw [List.mem_filter, h.lineBit here]
    exact ⟨h.mem, by cases lowest.getMsbD i <;> rfl⟩
  agree := by
    intro k mem j before
    obtain ⟨drives, goesOn⟩ := List.mem_filter.mp mem
    rcases Nat.lt_succ_iff_lt_or_eq.mp before with earlier | rfl
    · exact h.agree k drives j earlier
    · cases bit : Sys2Proof.lineBit j driving with
      | true => rw [← h.lineBit here, bit, List.all_eq_true.mp bit k drives]
      | false => rw [← h.lineBit here, bit]; simpa [bit] using goesOn
  least := fun k mem => h.least k (List.mem_filter.mp mem).1

/-- The transmitters still driving a contest. -/
def stillDriving (own : Byte) (up : Bool) (rivals : List Byte) : List Byte := if up then own :: rivals else rivals

theorem stillDriving_filter (own : Byte) (up : Bool) (rivals : List Byte) (p : Byte → Bool) :
    stillDriving own (up && p own) (rivals.filter p) = (stillDriving own up rivals).filter p := by
  cases up
  · rfl
  · cases goesOn : p own <;> simp [stillDriving, goesOn]

/-- A contest from a cell on is won by the lowest header, whose bits the line carries (R136). -/
theorem contest_lowest {own lowest : Byte} (cells i : Nat) (up : Bool) (rivals : List Byte) (whole : i + cells = 8)
    (driving : Driving lowest i (stillDriving own up rivals)) (down : up = false → own ≠ lowest) :
    ((contest own cells i up rivals).1 = true ↔ own = lowest) ∧
      (contest own cells i up rivals).2 = (List.range' i cells).map lowest.getMsbD := by
  induction cells generalizing i up rivals with
  | zero =>
    refine ⟨⟨fun won => ?_, fun same => ?_⟩, rfl⟩
    · cases up with
      | false => cases won
      | true =>
        refine BitVec.eq_of_getMsbD_eq fun j inside => driving.agree own (by simp [stillDriving]) j (by omega)
    · cases up with
      | false => exact absurd same (down rfl)
      | true => rfl
  | succ cells ih =>
    have here : i < 8 := by omega
    have bit := driving.lineBit here
    have next := driving.next here
    rw [← stillDriving_filter] at next
    obtain ⟨won, bits⟩ := ih (i + 1) _ _ (by omega) next (by
      rintro stopped rfl
      cases up with
      | false => exact down rfl rfl
      | true =>
        rw [Bool.true_and, bit] at stopped
        simp at stopped)
    exact ⟨won, by rw [List.range'_succ, List.map_cons, ← bit, ← bits]; rfl⟩

/-- The contest over the eight header cells (R136). -/
theorem arbitrate_lowest {own lowest : Byte} {rivals : List Byte} (mem : lowest ∈ own :: rivals)
    (least : ∀ k ∈ own :: rivals, lowest.toNat ≤ k.toNat) :
    ((arbitrate own rivals).1 = true ↔ own = lowest) ∧ (arbitrate own rivals).2 = bitsOf lowest := by
  have all : Driving lowest 0 (stillDriving own true rivals) := ⟨mem, fun _ _ _ none => absurd none (Nat.not_lt_zero _), least⟩
  obtain ⟨won, bits⟩ := contest_lowest 8 0 true rivals rfl all nofun
  exact ⟨won, by rw [bitsOf, List.range_eq_range']; exact bits⟩

theorem exists_lowest (own : Byte) (rivals : List Byte) :
    ∃ h ∈ own :: rivals, ∀ k ∈ own :: rivals, h.toNat ≤ k.toNat := by
  obtain ⟨h, mem, least⟩ := Finset.exists_min_image (own :: rivals).toFinset BitVec.toNat ⟨own, by simp⟩
  exact ⟨h, List.mem_toFinset.mp mem, fun k hk => least k (List.mem_toFinset.mpr hk)⟩

/-- The station wins exactly when no rival's header is lower. -/
theorem arbitrate_won (own : Byte) (rivals : List Byte) :
    (arbitrate own rivals).1 = true ↔ ∀ h ∈ rivals, own.toNat ≤ h.toNat := by
  obtain ⟨lowest, mem, least⟩ := exists_lowest own rivals
  rw [(arbitrate_lowest mem least).1]
  constructor
  · rintro rfl h rival
    exact least h (by simp [rival])
  · intro none
    refine BitVec.eq_of_toNat_eq (le_antisymm ?_ (least own (by simp)))
    rcases List.mem_cons.mp mem with rfl | rival
    · exact le_rfl
    · exact none lowest rival

end Sys2Proof

namespace Sys2Proof.Machine

variable {s : State}

/-! ### The transmit selection -/

/-- The MARK source is ready (R25, R135). -/
def State.markReady (boundary : Bool) (s : State) : Prop := s.clock.markPending = true ∧ s.clock.running = true ∧
  s.clock.saturated = false ∧ boundary = true ∧ s.clock.phase = 0

/-- The station may start a frame (R133, R134, R147). -/
def State.mayStart (quiet : Nat) (s : State) : Prop := s.station.state.examines = true ∧ s.line.state = .lineFree ∧
  (if s.line.lastSender then 16 else 10) ≤ min 16 (max s.line.highCount quiet)

theorem selectSource_mark {boundary : Bool} (mark : s.markReady boundary) : selectSource boundary s = some .mark := by
  obtain ⟨pending, running, unsaturated, edge, phase⟩ := mark
  simp [selectSource, pending, running, unsaturated, edge, phase]

theorem selectSource_other {boundary : Bool} (noMark : ¬s.markReady boundary) : selectSource boundary s =
    if s.reports ≠ [] then some .report else if s.line.statusSlot ≠ none then some .status else none := by
  rw [selectSource, if_neg]
  · cases s.reports <;> cases s.line.statusSlot <;> simp
  · simpa [State.markReady, and_assoc] using noMark

/-- The source of a start, if the station may start (R134, R135). -/
theorem startSource_eq (i : StartInstant) (s : State) [Decidable (s.mayStart i.quiet ∧ i.inputHigh = true)] :
    startSource i s = if s.mayStart i.quiet ∧ i.inputHigh = true then selectSource i.boundary s else none := by
  have may : (s.station.state.examines && s.line.state == .lineFree && decide (s.line.gap ≤ quietAt i.quiet s.line) &&
      i.inputHigh) = true ↔ s.mayStart i.quiet ∧ i.inputHigh = true := by
    simp [State.mayStart, LineController.gap, quietAt, yieldGap, idleGap, and_assoc]
  unfold startSource
  by_cases h : s.mayStart i.quiet ∧ i.inputHigh = true
  · rw [if_pos h, if_pos (may.mpr h)]
  · rw [if_neg h, if_neg (mt may.mp h)]

theorem exec_frameStart_selected {i : StartInstant} {src : Source} (powered : s.powered = true)
    (selected : startSource i s = some src) : exec (.frameStart i) s = .next (contend src i.rivals s) := by
  simp only [exec, execFrameStart, whenPowered_eq s _ powered, selected]

theorem exec_frameStart_follows {i : StartInstant} (powered : s.powered = true) (unselected : startSource i s = none) :
    exec (.frameStart i) s = .next (if othersStart i then followStart s else s) := by
  simp only [exec, execFrameStart, whenPowered_eq s _ powered, unselected]

theorem contend_won {src : Source} {rivals : List Byte} (least : ∀ h ∈ rivals, (sourceHeader src s).toNat ≤ h.toNat) :
    contend src rivals s = s.setLine { s.line with
      state := .contending, highCount := 0, assembly := none, decision := none,
      inFlight := some ⟨src, sourceHeader src s, s.clock.tick, none, false⟩ } := by
  simp only [contend, (arbitrate_won _ _).mpr least, if_true]

theorem contend_lost {src : Source} {rivals : List Byte} {h : Byte} (rival : h ∈ rivals)
    (lower : h.toNat < (sourceHeader src s).toNat) (least : ∀ k ∈ rivals, h.toNat ≤ k.toNat) :
    contend src rivals s = s.setLine { s.line with
      state := .receiving, highCount := 0, assembly := some ⟨bitsOf h, 12⟩, decision := none, inFlight := none } := by
  obtain ⟨won, bits⟩ := arbitrate_lowest (own := sourceHeader src s) (List.mem_cons_of_mem _ rival)
    (List.forall_mem_cons.mpr ⟨lower.le, least⟩)
  have lost : (arbitrate (sourceHeader src s) rivals).1 ≠ true := by
    rw [ne_eq, won]
    rintro same
    rw [same] at lower
    exact absurd lower (lt_irrefl _)
  simp only [contend, bits, lost]
  rfl

/-- A start of a source whose header bears the class `cls`, won and lost. -/
theorem exec_frameStart_contest {i : StartInstant} {src : Source} (powered : s.powered = true)
    (selected : startSource i s = some src) (cls : BitVec 3) (same : src.cls = cls) :
    ((∀ h ∈ i.rivals, (cls ++ s.headerAddress : Byte).toNat ≤ h.toNat) →
      exec (.frameStart i) s = .next (s.setLine { s.line with
        state := .contending, highCount := 0, assembly := none, decision := none,
        inFlight := some ⟨src, cls ++ s.headerAddress, s.clock.tick, none, false⟩ })) ∧
    ∀ h ∈ i.rivals, h.toNat < (cls ++ s.headerAddress : Byte).toNat → (∀ k ∈ i.rivals, h.toNat ≤ k.toNat) →
      exec (.frameStart i) s = .next (s.setLine { s.line with
        state := .receiving, highCount := 0, assembly := some ⟨bitsOf h, 12⟩, decision := none, inFlight := none }) := by
  subst same
  rw [exec_frameStart_selected powered selected]
  exact ⟨fun least => congrArg _ (contend_won least),
    fun h rival lower least => congrArg _ (contend_lost rival lower least)⟩

end Sys2Proof.Machine

namespace Sys2Proof.Proofs

open Sys2Proof.Machine

/-- Settles O49. -/
theorem lowestHeaderWins : Obligations.LowestHeaderWins := by
  intro own rivals
  obtain ⟨lowest, mem, least⟩ := exists_lowest own rivals
  exact ⟨arbitrate_won own rivals, lowest, mem, least, (arbitrate_lowest mem least).2⟩

/-- Settles O50. -/
theorem frameStarts : Obligations.FrameStarts := by
  intro s i powered
  refine ⟨fun src free high source => ?_, fun notStarting => ?_⟩
  · have selected : startSource i s = some src := by
      classical
      rw [startSource_eq, if_pos ⟨free, high⟩]
      rcases source with ⟨rfl, mark⟩ | ⟨rfl, noMark, listed⟩ | ⟨rfl, noMark, empty, slot⟩
      · exact selectSource_mark mark
      · rw [selectSource_other noMark, if_pos listed]
      · rw [selectSource_other noMark, if_neg (not_not.mpr empty), if_pos slot]
    have contest := exec_frameStart_contest powered selected
    clear selected source
    cases src
    · exact contest 0 rfl
    · exact contest 2 rfl
    · exact contest 7 rfl
  · have unselected : startSource i s = none := by
      classical
      rw [startSource_eq]
      split
      · rename_i may
        have notReady : ¬(s.markReady i.boundary ∨ s.reports ≠ [] ∨ s.line.statusSlot ≠ none) :=
          fun ready => notStarting ⟨may.1, ready, may.2⟩
        simp only [not_or] at notReady
        rw [selectSource_other notReady.1, if_neg notReady.2.1, if_neg notReady.2.2]
      · rfl
    have others : othersStart i = true ↔ i.inputHigh = false ∨ i.rivals ≠ [] := by simp [othersStart]
    rw [exec_frameStart_follows powered unselected]
    refine ⟨fun alone => ?_, fun edge working => ⟨fun between noAssembly noDecision noFrame => ?_, fun broken => ?_⟩⟩
    · rw [if_neg (mt others.mp alone)]
    · have unbroken : s.line.state ≠ .lineBreak := by rcases between with h | h <;> rw [h] <;> nofun
      have free : s.line.betweenFrames = true := by
        rw [LineController.betweenFrames_iff]
        exact ⟨between, noAssembly, noDecision, noFrame⟩
      rw [if_pos (others.mpr edge), followStart, if_pos ((followsLine_iff s).mpr working), if_neg unbroken, if_pos free]
      rfl
    · rw [if_pos (others.mpr edge), followStart, if_pos ((followsLine_iff s).mpr working), if_pos broken]
      rfl

end Sys2Proof.Proofs

namespace Sys2Proof.Machine

variable {s : State}

/-! ### The end of an own JUDGE frame, by blocks -/

/-- A forced-close point taken, by the blocks it writes (R85). -/
theorem takeForced_eq (key : Nat) (s : State) : takeForced key s =
    let owed := (findRecord key s).any fun r => r.ownSent && !r.forcedPending
    { s with
      chords := if owed then s.chords.map fun r => if r.key = key then { r with forcedPending := true } else r else s.chords
      reports := if owed then s.reports ++ [⟨.forced, key⟩] else s.reports } := by
  cases found : findRecord key s with
  | none => simp [takeForced, found]
  | some r =>
    cases owed : r.ownSent && !r.forcedPending
    · simp [takeForced, found, owed]
    · simp only [takeForced, found, owed, if_true, Option.any_some]
      rfl

theorem findRecord_updateRecord (key : Nat) (f : ChordRecord → ChordRecord) (keeps : ∀ r, (f r).key = r.key) (s : State) :
    findRecord key (updateRecord key f s) = (findRecord key s).map f := by
  simp only [findRecord, updateRecord_chords, List.find?_map]
  have same : ((fun r : ChordRecord => r.key == key) ∘ fun r => if r.key = key then f r else r) = fun r => r.key == key := by
    funext r
    rw [Function.comp_apply]
    split <;> simp [keeps]
  rw [same]
  cases found : s.chords.find? fun r => r.key == key with
  | none => rfl
  | some r => simp [by simpa using List.find?_some found]

/-- A member report has ended behind the forced-close point of its record, with no forced close pending (R85). -/
abbrev State.overdue (due : Nat) (s : State) : Prop :=
  (s.station.state = .playing ∨ s.station.state = .lost) ∧ due + s.judge.w + 205 ≤ s.adjClock ∧
    (findRecord due s).any (fun r => !r.forcedPending) = true

/-- The record of an own member report sent. -/
def ChordRecord.sent (r : ChordRecord) : ChordRecord := { r with ownSent := true }

/-- An own member report sent, by the blocks it writes (R81, R85). -/
theorem memberSent_eq (due : Nat) (s : State) : memberSent due s = { s with
    chords := s.chords.map fun r => if r.key = due then
      { r with ownSent := true, forcedPending := r.forcedPending || decide (s.overdue due) } else r
    reports := if s.overdue due then s.reports ++ [⟨.forced, due⟩] else s.reports } := by
  have owed : ((findRecord due (updateRecord due ChordRecord.sent s)).any fun r => r.ownSent && !r.forcedPending) =
      (findRecord due s).any fun r => !r.forcedPending := by
    rw [findRecord_updateRecord due ChordRecord.sent fun _ => rfl, Option.any_map]
    rfl
  have passed : (s.station.state.judges && decide (forcedFall s.judge.w due ≤ s.adjClock)) = true ↔
      (s.station.state = .playing ∨ s.station.state = .lost) ∧ due + s.judge.w + 205 ≤ s.adjClock := by
    rw [Bool.and_eq_true, StationState.judges_iff, decide_eq_true_iff]
    rfl
  have unfolded : memberSent due s =
      if (s.station.state.judges && decide (forcedFall s.judge.w due ≤ s.adjClock)) = true then
        takeForced due (updateRecord due ChordRecord.sent s) else updateRecord due ChordRecord.sent s := rfl
  rw [unfolded]
  by_cases overdue : s.overdue due
  · obtain ⟨judging, reached, idle⟩ := id overdue
    rw [if_pos (passed.mpr ⟨judging, reached⟩), takeForced_eq, owed.trans idle]
    refine State.blocks_ext rfl rfl rfl rfl rfl rfl rfl rfl ?_ rfl ?_ rfl rfl rfl rfl
    · simp only [updateRecord_chords, List.map_map, if_true]
      refine List.map_congr_left fun r _ => ?_
      by_cases key : r.key = due <;> simp [key, ChordRecord.sent, judging, reached, idle]
    · exact (if_pos overdue).symm
  · have none : (if (s.station.state.judges && decide (forcedFall s.judge.w due ≤ s.adjClock)) = true then
        takeForced due (updateRecord due ChordRecord.sent s) else updateRecord due ChordRecord.sent s) = updateRecord due ChordRecord.sent s := by
      split
      · rename_i reached
        have idle : ((findRecord due s).any fun r => !r.forcedPending) = false :=
          Bool.eq_false_iff.mpr fun idle => overdue ⟨(passed.mp reached).1, (passed.mp reached).2, idle⟩
        rw [takeForced_eq, owed.trans idle]
        rfl
      · rfl
    rw [none]
    refine State.blocks_ext rfl rfl rfl rfl rfl rfl rfl rfl ?_ rfl ?_ rfl rfl rfl rfl
    · simp [updateRecord_chords, overdue, ChordRecord.sent]
    · simp [overdue, updateRecord]

/-- The record of a chord this station has closed, by the blocks it writes (R81; notes/assumptions/35.md). -/
theorem closeOwnRecord_eq (due : Nat) (s : State) : closeOwnRecord due s = { s with
    chords := s.chords.filter fun r => r.key != due
    reports := if (findRecord due s).any (fun r => r.forcedPending) = true
      then s.reports.filter fun i => !(i.kind == .forced && i.due == due) else s.reports } := by
  cases found : findRecord due s with
  | none =>
    have all : s.chords.filter (fun r => r.key != due) = s.chords :=
      List.filter_eq_self.mpr fun r mem => by simpa using findRecord_none found r mem
    simp [closeOwnRecord, found, all]
  | some r =>
    cases pending : r.forcedPending <;> simp only [closeOwnRecord, found, pending, Option.any_some] <;> rfl

/-- The entry of an own report, by the blocks it writes (R46). -/
theorem entryReported_eq (item : ReportItem) (s : State) : entryReported item s = { s with
    queue := { s.queue with entries := match item.kind with
      | .head => s.queue.entries.map fun x => if x.due = item.due then { x with headSent := true } else x
      | .forced => s.queue.entries
      | _ => s.queue.entries.filter fun x => x.due != item.due } } := by
  cases kind : item.kind <;> simp only [entryReported, kind] <;> rfl

/-- The Chord Table, the report list and the flash behind an own JUDGE frame (R81, R85, R86). -/
theorem chordReported_eq (j : JudgeLatch) (s : State) :
    chordReported j s =
      let due := j.item.due
      let late := j.form = .member ∧ s.overdue due
      { s with
        reports := if late then s.reports ++ [⟨.forced, due⟩]
          else if j.form = .closingChord ∧ (findRecord due s).any (fun r => r.forcedPending) = true then
            s.reports.filter fun i => !(i.kind == .forced && i.due == due) else s.reports
        chords := match j.form with
          | .closingChord => s.chords.filter fun r => r.key != due
          | .forced => if j.evicted then s.chords else s.chords.filter fun r => r.key != due
          | .member => s.chords.map fun r =>
              if r.key = due then { r with ownSent := true, forcedPending := r.forcedPending || decide late } else r
          | _ => s.chords
        lamp := match j.form with
          | .closingChord => { s.lamp with flash := some ⟨flashColour j.result, 16, 0⟩ }
          | .forced => { s.lamp with flash := some ⟨⟨4095, 0, 0, 0⟩, 16, 0⟩ }
          | _ => s.lamp } := by
  obtain ⟨item, form, result, tallies, evicted⟩ := j
  cases form with
  | closingSingle => simp [chordReported]
  | orphan => simp [chordReported]
  | tail => simp [chordReported]
  | member => simp only [chordReported, memberSent_eq, true_and, reduceCtorEq, false_and, if_false]
  | closingChord =>
    simp only [chordReported, closeOwnRecord_eq, true_and, reduceCtorEq, false_and, if_false]
    rfl
  | forced =>
    simp only [chordReported, reduceCtorEq, false_and, if_false]
    cases evicted <;> rfl

/-- The tallies of an own closing frame applied, by the block it writes (R93, R101). -/
theorem applyTallies_eq (j : JudgeLatch) (s : State) : applyTallies j s = { s with
    tally := match j.tallies with
      | some p => { s.tally with replica := p, counts := s.tally.counts.count j.result }
      | none => s.tally } := by
  cases h : j.tallies with
  | none => simp only [applyTallies, h]
  | some p =>
    simp only [applyTallies, h]
    rfl

/-- An own JUDGE frame at its end but for the failure test, by the blocks it writes (R46, R81, R85, R86, R101). -/
theorem judgeApplied_eq (j : JudgeLatch) (s : State) : judgeApplied j s =
    let due := j.item.due
    let late := j.form = .member ∧ s.overdue due
    { s with
      tally := match j.tallies with
        | some p => { s.tally with replica := p, counts := s.tally.counts.count j.result }
        | none => s.tally
      reports := if late then s.reports.tail ++ [⟨.forced, due⟩]
        else if j.form = .closingChord ∧ (findRecord due s).any (fun r => r.forcedPending) = true then
          s.reports.tail.filter fun i => !(i.kind == .forced && i.due == due) else s.reports.tail
      queue := { s.queue with entries := match j.item.kind with
        | .head => s.queue.entries.map fun x => if x.due = due then { x with headSent := true } else x
        | .forced => s.queue.entries
        | _ => s.queue.entries.filter fun x => x.due != due }
      chords := match j.form with
        | .closingChord => s.chords.filter fun r => r.key != due
        | .forced => if j.evicted then s.chords else s.chords.filter fun r => r.key != due
        | .member => s.chords.map fun r =>
            if r.key = due then { r with ownSent := true, forcedPending := r.forcedPending || decide late } else r
        | _ => s.chords
      lamp := match j.form with
        | .closingChord => { s.lamp with flash := some ⟨flashColour j.result, 16, 0⟩ }
        | .forced => { s.lamp with flash := some ⟨⟨4095, 0, 0, 0⟩, 16, 0⟩ }
        | _ => s.lamp } := by
  rw [judgeApplied, chordReported_eq, entryReported_eq, applyTallies_eq]
  rfl

theorem judgeApplied_tally_eq {j : JudgeLatch} {p : Replica} (carried : j.tallies = some p) (s : State) :
    (judgeApplied j s).tally = { s.tally with replica := p, counts := s.tally.counts.count j.result } := by
  simp only [judgeApplied_eq, carried]

theorem judgeApplied_station (j : JudgeLatch) (s : State) : (judgeApplied j s).station = s.station := by
  rw [judgeApplied_eq]

theorem testFailure_of_survives (survives : s.station.state.judges = true → s.tally.failureEnabled = true →
    s.tally.replica.gauge ≠ 0) : testFailure s = s :=
  if_neg fun ⟨judges, enabled, empty⟩ => survives judges enabled empty

/-- JUDGE_SENT of a latched report with no mismatch. -/
theorem exec_judgeSent {f : InFlight} {j : JudgeLatch} {bytes : List Byte} {acked : Bool} (powered : s.powered = true)
    (sending : s.line.state = .sending) (flying : s.line.inFlight = some f) (source : f.source = .report)
    (noMismatch : f.mismatch = false) (latched : f.latched = some ⟨.judge j, bytes⟩) :
    exec (.judgeSent ⟨acked, false⟩) s = .next (tellAcknowledged acked (judgeCompleted j (ownFrameEnded s))) := by
  refine congrArg Host.Outcome.next ?_
  rw [whenPowered_eq s _ powered, endOwnFrame_eq sending flying source latched, if_neg (by simp [noMismatch])]
  rfl

end Sys2Proof.Machine

namespace Sys2Proof.Proofs

open Sys2Proof.Machine

/-- Settles O29. -/
theorem judgeFrameEnds : Obligations.JudgeFrameEnds := by
  intro s f j bytes rest acked powered sending flying source noMismatch latched reports closing survives
  have tail : s.reports.tail = rest := by rw [reports]; rfl
  have survived : judgeCompleted j (ownFrameEnded s) = judgeApplied j (ownFrameEnded s) := by
    rw [judgeCompleted_eq]
    split
    · rename_i closes
      obtain ⟨p, carried⟩ := Option.isSome_iff_exists.mp (closing.trans closes)
      refine testFailure_of_survives ?_
      rw [judgeApplied_station, judgeApplied_tally_eq carried]
      exact survives p carried
    · rfl
  rw [exec_judgeSent powered sending flying source noMismatch latched, survived, tellAcknowledged_eq]
  have ended : (ownFrameEnded s).reports.tail = rest := tail
  refine congrArg Host.Outcome.next ?_
  simp only [judgeApplied_eq, ended, lampAfterHeard_eq]
  obtain ⟨item, form, result, tallies, evicted⟩ := j
  cases acked <;> cases form <;> rfl

/-- Settles O30. -/
theorem judgeFrameFails : Obligations.JudgeFrameFails := by
  intro s f j p bytes acked powered sending flying source noMismatch latched carried closes failing enabled judging
  have failed : judgeCompleted j (ownFrameEnded s) = enterFailed (judgeApplied j (ownFrameEnded s)) := by
    rw [judgeCompleted_eq, if_pos closes, testFailure, judgeApplied_station, judgeApplied_tally_eq carried]
    exact if_pos ⟨(StationState.judges_iff _).mpr judging, enabled, failing⟩
  have silent : tellAcknowledged acked (enterFailed (judgeApplied j (ownFrameEnded s))) =
      enterFailed (judgeApplied j (ownFrameEnded s)) := by cases acked <;> rfl
  refine ⟨_, exec_judgeSent powered sending flying source noMismatch latched, ?_⟩
  rw [failed, silent, judgeApplied_eq]
  simp only [carried]
  exact ⟨rfl, rfl, rfl, rfl, rfl, rfl, rfl, rfl, rfl, rfl, rfl⟩

end Sys2Proof.Proofs

namespace Sys2Proof.Machine

variable {s : State} {f : NoteFrame} {e : NoteEntry}

/-! ### The tests of a NOTE (R38) -/

theorem StationState.takesNotes_iff (st : StationState) : st.takesNotes = true ↔ st = .idle ∨ st = .playing ∨ st = .lost := by
  cases st <;> simp [takesNotes]

theorem testNote_wrongState (closed : s.station.state.takesNotes = false) (adj : Nat) :
    testNote f adj s = .error .wrongState := by simp [testNote, closed]

theorem testNote_malformed (takes : s.station.state.takesNotes = true) (malformed : noteEntry s.address f = none) (adj : Nat) :
    testNote f adj s = .error .malformed := by simp [testNote, takes, malformed]

/-- The four tests against the song and the queue, in order. -/
theorem testNote_wellFormed (takes : s.station.state.takesNotes = true) (made : noteEntry s.address f = some e) (adj : Nat) :
    testNote f adj s =
      if (s.station.state = .playing ∨ s.station.state = .lost) ∧ (e.due + s.judge.w + 4 < adj ∨ s.station.endTime < e.due) then
        .error .stale
      else if ∃ x ∈ s.queue.entries, x.due = e.due then .error .duplicate
      else if ∃ x ∈ s.queue.entries, overlap e x = true then .error .overlap
      else if 32 ≤ s.queue.held then .error .full
      else .ok e := by
  simp only [testNote, takes, made, Bool.not_true, Bool.false_eq_true, if_false, staleNote, pastLapse, Bool.and_eq_true,
    StationState.judges_iff, Bool.or_eq_true, decide_eq_true_eq, List.any_eq_true, beq_iff_eq]
  rfl

/-! ### A NOTE heard, by its verdict -/

theorem exec_note (hears : s.hears (.note f) = true) : exec (.note f .whole) s =
    .next (heardFrame (noteEffect (decisionOf false (.note f) s) (atEndOfFrame (.note f) s))) := by
  refine congrArg Host.Outcome.next ?_
  rw [whenPowered_eq s _ ((s.hears_iff _).mp hears).1, receive_whole _ _ s hears]

theorem noteVerdict_whole (f : NoteFrame) (s : State) : noteVerdict false f s =
    if f.target.toNat = s.address ∧ s.settings.job = none then some (testNote f s.adjClock s) else none := by
  simp only [noteVerdict, ← addressed_iff]
  rfl

/-- A NOTE that does not reach the Note Queue (R37). -/
theorem exec_note_ignored (hears : s.hears (.note f) = true) (other : noteVerdict false f s = none) :
    exec (.note f .whole) s = .next s.afterHeard := by
  have unheld : insertionOf false (.note f) s = none := by simp only [insertionOf, other]
  rw [exec_note hears, ← heardFrame_atEndOfFrame (.note f) s unheld]
  simp only [noteEffect, decisionOf, refusalOf, accepts, other, Bool.false_eq_true, if_false]

/-- A NOTE that fails a test (R38, R44). -/
theorem exec_note_refused (hears : s.hears (.note f) = true) {r : RefusalReason}
    (verdict : noteVerdict false f s = some (.error r)) : exec (.note f .whole) s = .next { s.afterHeard with
      queue := { s.queue with pendingInsertion := none, lastRefusal := r,
                              staleCount := if r = .stale then min 255 (s.queue.staleCount + 1) else s.queue.staleCount } } := by
  rw [exec_note hears]
  simp only [noteEffect, decisionOf, refusalOf, accepts, verdict, heardFrame_eq, atEndOfFrame, insertionOf]
  rfl

/-- A NOTE that passes the tests (R35, R43). -/
theorem exec_note_taken (hears : s.hears (.note f) = true) (verdict : noteVerdict false f s = some (.ok e)) :
    exec (.note f .whole) s = .next { s.afterHeard with
      queue := { s.queue with pendingInsertion := none, entries := insertEntry e s.queue.entries } } := by
  rw [exec_note hears]
  simp only [noteEffect, decisionOf, refusalOf, accepts, verdict, if_true, heardFrame_eq, atEndOfFrame, insertionOf]
  rfl

/-! ### The entry of a NOTE -/

/-- In a queue in due order that holds no note of its due, an entry stands between those of lower and of higher due (R35). -/
theorem insertEntry_eq {entries : List NoteEntry} (order : entries.Pairwise fun a b => noteBefore a b = true)
    (new : ∀ x ∈ entries, x.due ≠ e.due) : insertEntry e entries =
      (entries.filter fun x => decide (x.due < e.due)) ++ e :: entries.filter fun x => decide (e.due < x.due) := by
  induction entries with
  | nil => rfl
  | cons x xs ih =>
    obtain ⟨first, rest⟩ := List.pairwise_cons.mp order
    obtain ⟨other, others⟩ := List.forall_mem_cons.mp new
    have later : ∀ y ∈ xs, x.due < y.due := fun y mem => by
      have before := first y mem
      simp only [noteBefore, Bool.and_eq_true, decide_eq_true_eq] at before
      exact before.1
    rcases Nat.lt_or_gt_of_ne other with lower | higher
    · rw [insertEntry, if_neg (by omega), ih rest others]
      simp [lower, Nat.le_of_lt lower]
    · have none : xs.filter (fun y => decide (y.due < e.due)) = [] :=
        List.filter_eq_nil_iff.mpr fun y mem => by have := later y mem; simp; omega
      have all : xs.filter (fun y => decide (e.due < y.due)) = xs :=
        List.filter_eq_self.mpr fun y mem => by have := later y mem; simp; omega
      rw [insertEntry, if_pos higher.le]
      simp [higher, higher.le, none, all]

/-- While no frame is examined no insertion is pending. -/
theorem insertion_none_of_hears {g : Frame} (queue : s.QueueOk) (hears : s.hears g = true) :
    s.queue.pendingInsertion = none := by
  obtain ⟨-, -, follows, -⟩ := (s.hears_iff g).mp hears
  simp only [LineController.mayFollow, Bool.and_eq_true, Option.isNone_iff_eq_none] at follows
  exact queue.insertion_none fun d held => by rw [follows.1.2] at held; cases held

/-- Two bit fields side by side, as a number. -/
theorem toNat_append {n m : Nat} (high : BitVec n) (low : BitVec m) : (high ++ low).toNat = 2 ^ m * high.toNat + low.toNat := by
  rw [BitVec.toNat_append, Nat.shiftLeft_eq, Nat.mul_comm, ← Nat.two_pow_add_eq_or_of_lt low.isLt]

/-- The kind and the partners of an entry, from the frame that made it (R34, R154). -/
theorem noteEntry_layout {own : Nat} (made : noteEntry own f = some e) : e.due = f.due.toNat ∧
    ((f.kind = 0 ∧ e.kind = .tap ∧ e.partners = f.body.map BitVec.toNat) ∨
      ∃ high low partners, f.kind = 1 ∧ f.body = high :: low :: partners ∧
        e.kind = .hold (256 * high.toNat + low.toNat) ∧ e.partners = partners.map BitVec.toNat) := by
  cases fields : noteFields f with
  | none => rw [noteEntry_none_of_fields own fields] at made; cases made
  | some layout =>
    obtain ⟨kind, partners⟩ := layout
    simp only [noteEntry, fields, Option.ite_none_right_eq_some, Option.some.injEq] at made
    obtain ⟨-, rfl⟩ := made
    refine ⟨rfl, ?_⟩
    simp only [noteFields, Option.ite_none_left_eq_some] at fields
    obtain ⟨-, fields⟩ := fields
    split at fields
    · rename_i tap
      cases fields
      exact .inl ⟨BitVec.eq_of_toNat_eq tap, rfl, rfl⟩
    · rename_i high low rest hold body
      cases fields
      exact .inr ⟨high, low, rest, BitVec.eq_of_toNat_eq hold, body, congrArg NoteKind.hold (toNat_append high low), rfl⟩
    · cases fields

end Sys2Proof.Machine

namespace Sys2Proof.Proofs

open Sys2Proof.Machine

/-- Settles O38. -/
theorem noteAccepted : Obligations.NoteAccepted := by
  intro s f e hears queue target free noting made onTime apart room
  have sound := (queueSound_iff s).mp queue
  obtain ⟨state, head, sent, tail, closed⟩ := noteEntry_waiting made
  obtain ⟨due, layout⟩ := noteEntry_layout made
  have unheld := insertion_none_of_hears sound hears
  have verdict : noteVerdict false f s = some (.ok e) := by
    rw [noteVerdict_whole, if_pos ⟨target, free⟩, testNote_wellFormed ((StationState.takesNotes_iff _).mpr noting) made,
      if_neg, if_neg, if_neg, if_neg]
    · simp only [NoteQueue.held, unheld]
      exact Nat.not_le.mpr room
    · exact fun ⟨x, mem, meets⟩ => Bool.false_ne_true ((apart x mem).2.symm.trans meets)
    · exact fun ⟨x, mem, same⟩ => (apart x mem).1 same
    · rintro ⟨judging, stale⟩
      obtain ⟨early, within⟩ := onTime (by rcases judging with h | h <;> rw [h] <;> nofun)
      omega
  refine ⟨state, head, sent, tail, closed, due, layout, ?_⟩
  rw [exec_note_taken hears verdict, insertEntry_eq sound.order fun x mem => (apart x mem).1]

/-- Settles O39. -/
theorem noteRefused : Obligations.NoteRefused := by
  intro s f hears
  refine ⟨fun other => ?_, fun target free => ?_⟩
  · refine exec_note_ignored hears ?_
    rw [noteVerdict_whole, if_neg]
    exact fun ⟨target, free⟩ => other.elim (fun h => h target) (fun h => h free)
  · have refuses {r : RefusalReason} (fails : testNote f s.adjClock s = .error r) := exec_note_refused hears
      ((noteVerdict_whole f s).trans ((if_pos ⟨target, free⟩).trans (congrArg some fails)))
    refine ⟨fun closed => refuses (testNote_wrongState (by rcases closed with h | h <;> rw [h] <;> rfl) _), fun receptive => ?_⟩
    have takes := (StationState.takesNotes_iff _).mpr receptive
    refine ⟨fun malformed => refuses (testNote_malformed takes malformed _), fun e made => ?_⟩
    have tests := testNote_wellFormed takes made s.adjClock
    refine ⟨fun judging stale => refuses (tests.trans (if_pos ⟨judging, stale⟩)), fun onTime => ?_⟩
    have fresh : ¬((s.station.state = .playing ∨ s.station.state = .lost) ∧
        (e.due + s.judge.w + 4 < s.adjClock ∨ s.station.endTime < e.due)) := by
      rintro ⟨judging, stale⟩
      have := onTime judging
      omega
    rw [if_neg fresh] at tests
    refine ⟨fun twin => refuses (tests.trans (if_pos twin)), fun single => ?_⟩
    rw [if_neg fun ⟨x, mem, same⟩ => single x mem same] at tests
    refine ⟨fun meets => refuses (tests.trans (if_pos meets)), fun apart full unheld => ?_⟩
    rw [if_neg fun ⟨x, mem, meets⟩ => Bool.false_ne_true ((apart x mem).symm.trans meets)] at tests
    exact refuses (tests.trans (if_pos (by simpa [NoteQueue.held, unheld] using full)))

end Sys2Proof.Proofs

namespace Sys2Proof.Machine

variable {s : State} {f : InFlight}

/-! ### The bytes of a STATUS page (R167) -/

theorem zoneByte_eq (z : Quad ZoneRecord) : zoneByte z = BitVec.ofNat 8 (z.q0.condition.code.toNat +
    4 * z.q1.condition.code.toNat + 16 * z.q2.condition.code.toNat + 64 * z.q3.condition.code.toNat) := by
  refine BitVec.eq_of_toNat_eq ?_
  simp only [zoneByte, toNat_append, BitVec.toNat_ofNat]
  have := z.q0.condition.code.isLt
  have := z.q1.condition.code.isLt
  have := z.q2.condition.code.isLt
  have := z.q3.condition.code.isLt
  omega

theorem lampByte_eq (c : Quad Channel) : lampByte c = BitVec.ofNat 8
    (c.q0.openFlag.toNat + 2 * c.q1.openFlag.toNat + 4 * c.q2.openFlag.toNat + 8 * c.q3.openFlag.toNat +
      16 * c.q0.shortLatch.toNat + 32 * c.q1.shortLatch.toNat + 64 * c.q2.shortLatch.toNat +
      128 * c.q3.shortLatch.toNat) := by
  refine BitVec.eq_of_toNat_eq ?_
  simp only [lampByte, toNat_append, BitVec.toNat_ofNat, BitVec.toNat_ofBool]
  have := Bool.toNat_le c.q0.openFlag
  have := Bool.toNat_le c.q1.openFlag
  have := Bool.toNat_le c.q2.openFlag
  have := Bool.toNat_le c.q3.openFlag
  have := Bool.toNat_le c.q0.shortLatch
  have := Bool.toNat_le c.q1.shortLatch
  have := Bool.toNat_le c.q2.shortLatch
  have := Bool.toNat_le c.q3.shortLatch
  omega

theorem flagByte_eq (s : State) : flagByte s = BitVec.ofNat 8 (s.settings.defaulted.toNat + 2 * s.clock.slip.toNat) := by
  refine BitVec.eq_of_toNat_eq ?_
  simp only [flagByte, toNat_append, BitVec.toNat_ofNat, BitVec.toNat_ofBool]
  have := Bool.toNat_le s.settings.defaulted
  have := Bool.toNat_le s.clock.slip
  omega

/-- Page 0, with the codes of the station state, of the zone conditions, of the flags and of the last refusal as numbers. -/
theorem statusFields_zero {state refusal : Nat} {condition : ZoneRecord → Nat} {bit : Bool → Nat}
    (states : s.station.state.code = state) (refusals : s.queue.lastRefusal.code = refusal)
    (conditions : ∀ x, x.condition.code.toNat = condition x) (bits : ∀ b, b.toNat = bit b) :
    let z := s.sense.zones
    let c := s.lamp.channels
    statusFields 0 s = [BitVec.ofNat 8 state,
      BitVec.ofNat 8 (condition z.q0 + 4 * condition z.q1 + 16 * condition z.q2 + 64 * condition z.q3),
      BitVec.ofNat 8 (bit c.q0.openFlag + 2 * bit c.q1.openFlag + 4 * bit c.q2.openFlag + 8 * bit c.q3.openFlag +
        16 * bit c.q0.shortLatch + 32 * bit c.q1.shortLatch + 64 * bit c.q2.shortLatch + 128 * bit c.q3.shortLatch),
      BitVec.ofNat 8 (bit s.settings.defaulted + 2 * bit s.clock.slip), BitVec.ofNat 8 s.queue.entries.length,
      BitVec.ofNat 8 s.reports.length, BitVec.ofNat 8 s.queue.staleCount, BitVec.ofNat 8 refusal] ++
        be24 (BitVec.ofNat 24 s.clock.tick) := by
  simp only [statusFields, zoneByte_eq, lampByte_eq, flagByte_eq, states, refusals, conditions, bits, byteOf]

/-- The station's player is 0 in doubles and on pad 0 (R95). -/
theorem State.player_eq (s : State) : s.player = if s.tally.doubles = true ∨ s.straps.pad = false then 0 else 1 := by
  have := s.straps.panel.isLt
  simp only [State.player, playerOf, State.address, floorAddress, padNumber]
  by_cases doubles : s.tally.doubles = true
  · simp [doubles]
  · by_cases pad : s.straps.pad = true
    · simp [doubles, pad]
    · simp [doubles, pad]
      omega

/-! ### The payload latch, by source (R137) -/

theorem exec_payloadLatch {l : Latched} (powered : s.powered = true) (contending : s.line.state = .contending)
    (flying : s.line.inFlight = some f) (latch : latchSource f s = some l) : exec .payloadLatch s = .next
      { s with line := { s.line with state := .sending, inFlight := some { f with latched := some l } } } := by
  refine congrArg Host.Outcome.next ?_
  simp only [whenPowered_eq s _ powered, contending, flying, latch]
  rfl

theorem latchSource_report {item : ReportItem} {rest : List ReportItem} (source : f.source = .report)
    (reports : s.reports = item :: rest) : latchSource f s = latchItem item s := by
  simp only [latchSource, source, reports]

theorem latchSource_status {page : Fin 4} (source : f.source = .status) (slot : s.line.statusSlot = some page) :
    latchSource f s = some ⟨.status, BitVec.ofNat 8 page.val :: statusFields page s⟩ := by
  simp only [latchSource, source, slot]
  rfl

theorem latchHead_eq {e : NoteEntry} {h : HeadResult} {form : JudgeForm} {g : Grade} {item : ReportItem} (kind : HeadKind)
    (found : findEntry item.due s = some e) (head : e.head = some h) (decided : closingDecision e h.grade s = (form, g)) :
    latchHead kind item s = some ⟨.judge ⟨item, form, .grade g, carriedTallies form (.grade g) s, false⟩,
      (headFormFrame form ⟨s.headerAddress, kind, BitVec.ofNat 24 item.due, g, h.lapsed, BitVec.ofInt 16 h.offset⟩
        (carriedTallies form (.grade g) s)).payload⟩ := by
  simp only [latchHead, found, head, decided]
  rfl

end Sys2Proof.Machine

namespace Sys2Proof.Proofs

open Sys2Proof.Machine

/-- Settles O51. -/
theorem payloadLatched : Obligations.PayloadLatched := by
  intro s f powered contending flying latched tallies carried bit
  have latch {l : Latched} (source : latchSource f s = some l) : latched l :=
    exec_payloadLatch powered contending flying source
  refine ⟨fun source => latch ?_, fun kind item e h rest before after form g source reports kinds entries first head decided => ?_,
    fun e r rest before after source reports entries first tail => latch ?_, fun key rest source reports => latch ?_,
    fun page source slot => ?_⟩
  · simp only [latchSource, source]
    rfl
  · have found : findEntry e.due s = some e := findEntry_first entries first
    have item : latchSource f s = latchHead kind ⟨item, e.due⟩ s := by
      rw [latchSource_report source reports]
      rcases kinds with ⟨rfl, rfl⟩ | ⟨rfl, rfl⟩ <;> rfl
    have spec := item.trans (latchHead_eq kind found head decided)
    refine ⟨?_, ?_, ?_⟩
    · rintro (rfl | rfl) <;> exact latch spec
    · rintro rfl
      exact latch spec
    · rintro rfl
      exact latch spec
  · rw [latchSource_report source reports]
    simp only [latchItem, latchTail, findEntry_first entries first, tail]
    rfl
  · rw [latchSource_report source reports]
    rfl
  · intro byte two z c n p condition state refusal
    refine latch ((latchSource_status source slot).trans ?_)
    refine congrArg (fun fields => some (Latched.mk .status (BitVec.ofNat 8 page.val :: fields))) ?_
    fin_cases page
    · exact statusFields_zero rfl rfl (fun ⟨_, _, x, _, _⟩ => by cases x <;> rfl) (fun b => by cases b <;> rfl)
    · rfl
    · simp only [statusFields, s.player_eq]
      rfl
    · rfl

end Sys2Proof.Proofs

namespace Sys2Proof.Machine

variable {s : State}

/-! ### A cell period, by its parts -/

/-- The timers of a cell period that stand before the line and the clock. -/
def timersCell (s : State) : State := cellPeriods (cellPattern (cellFlash (cellSilence (cellStore s))))

@[simp] theorem timersCell_frame (s : State) :
    (timersCell s).powered = s.powered ∧ (timersCell s).straps = s.straps ∧ (timersCell s).clock = s.clock ∧
    (timersCell s).queue = s.queue ∧ (timersCell s).judge = s.judge ∧ (timersCell s).chords = s.chords ∧
    (timersCell s).tally = s.tally ∧ (timersCell s).reports = s.reports ∧ (timersCell s).line = s.line ∧
    (timersCell s).pending = s.pending := by
  simp [timersCell]

/-- The silence timer alone moves the state, from PLAYING to LOST (R118). -/
theorem timersCell_state (s : State) : (timersCell s).station.state = s.station.state ∨
    s.station.state = .playing ∧ (timersCell s).station.state = .lost := by
  have silence (u : State) : (cellSilence u).station.state = u.station.state ∨
      u.station.state = .playing ∧ (cellSilence u).station.state = .lost := by
    unfold cellSilence
    split
    · split
      · split
        · exact .inr ⟨‹_›, rfl⟩
        · exact .inl rfl
      · exact .inl rfl
    · exact .inl rfl
  simpa [timersCell] using silence (cellStore s)

/-- A cell period of a station that has started up. -/
theorem step_cell (waits : s.pending = []) (powered : s.powered = true) (started : s.station.state ≠ .startup) :
    step s = .next (cellClock (cellLine (timersCell s))) := by
  have up : cellStartup s = s := by simp [cellStartup, State.startupOver, started]
  simp only [step, waits, cellPeriod, whenPowered_eq s _ powered, up]
  rfl

/-! ### The line in a cell period -/

/-- The entries stay, and with no frame followed so does the whole queue (R43, R143). -/
theorem cellLine_queue (s : State) : (cellLine s).queue.entries = s.queue.entries ∧
    (s.line.assembly = none → (cellLine s).queue = s.queue) := by
  have followed : (followedCell s).queue.entries = s.queue.entries := by
    simp only [followedCell]
    split
    · rw [abortFrame_eq]
    · rfl
  unfold cellLine
  split
  · split
    · rename_i _ follows
      exact ⟨followed, fun none => by simp [none] at follows⟩
    · split <;> exact ⟨rfl, fun _ => rfl⟩
  · exact ⟨rfl, fun _ => rfl⟩

/-- A high cell in a frame another station sends (R143, R145). -/
theorem cellLine_followed (started : s.station.state ≠ .startup) (follows : s.line.assembly.isSome = true)
    (noOwn : s.line.inFlight = none) : cellLine s =
      if s.line.highCount < 2 then s.setLine { s.line with highCount := s.line.highCount + 1 }
      else abortFrame (min 16 (s.line.highCount + 1)) s := by
  simp only [cellLine, (followsLine_iff s).mpr started, follows, noOwn, Option.isNone_none, Bool.and_self, if_true, followedCell,
    timeoutCells, yieldGap]
  by_cases early : s.line.highCount < 2
  · have : min 16 (s.line.highCount + 1) = s.line.highCount + 1 := by omega
    rw [if_pos early, if_neg (by omega), this]
  · rw [if_neg early, if_pos (by omega)]

/-! ### The clock in a cell period -/

theorem cellClock_within (advances : s.clock.advances = true) (within : s.clock.phase < 19) :
    cellClock s = s.setClock { s.clock with phase := s.clock.phase + 1 } := by
  have same : Config.cellsPerTick = 20 := rfl
  rw [cellClock, if_pos advances, if_neg (by omega)]

/-- In DONE a tick boundary moves the clock alone. -/
theorem cellClock_done (advances : s.clock.advances = true) (last : s.clock.phase = 19) (done : s.station.state = .done) :
    cellClock s = s.setClock s.clock.nextTick := by
  have same : Config.cellsPerTick = 20 := rfl
  rw [cellClock, if_pos advances, if_pos (by omega), tickBoundary, if_pos advances, reportAdvance,
    takeThresholds_quiet fun judges => by simp [done, StationState.judges] at judges, examineDone, if_neg]
  simp [done]

theorem SongClock.nextTick_phase (c : SongClock) : c.nextTick.phase = 0 := by
  rw [nextTick_eq]
  split <;> rfl

theorem cellClock_judged (s : State) : s.judgedTo (cellClock s) := by
  unfold cellClock
  split
  · split
    · exact tickBoundary_judged s
    · exact (State.judgedTo.refl s).setClock _
  · exact .refl s

/-- With no own frame in flight a cell of the clock leaves the line. -/
theorem cellClock_line (noOwn : s.line.inFlight = none) : (cellClock s).line = s.line := by
  rcases (cellClock_judged s).line with same | condemned
  · exact same
  · rw [condemned, LineController.condemned, noOwn]
    cases line : s.line
    rw [line] at noOwn
    simpa using noOwn.symm

theorem cellClock_pendingInsertion (s : State) : (cellClock s).queue.pendingInsertion = s.queue.pendingInsertion := by
  rw [(cellClock_judged s).queue]

end Sys2Proof.Machine

namespace Sys2Proof.Proofs

open Sys2Proof.Machine

/-- Settles O2. -/
theorem idleStepPassesOneCell : Obligations.IdleStepPassesOneCell := by
  refine ⟨fun s waits unpowered => ?_, fun s waits powered sound advances within => ?_,
    fun s waits powered advances last done => ?_, fun s waits powered started follows noOwn => ?_⟩
  · simp only [step, waits, cellPeriod, whenPowered_off s _ unpowered]
  · have started : s.station.state ≠ .startup := fun startup => by
      obtain ⟨running, -, -⟩ := s.clock.advances_iff.mp advances
      simp [clockSound, startup, running, StationState.clockRuns] at sound
    obtain ⟨entries, unfollowed⟩ := cellLine_queue (timersCell s)
    refine ⟨_, step_cell waits powered started, ?_⟩
    rw [cellClock_within (by simpa using advances) (by simpa using within)]
    simp only [timersCell_frame] at entries unfollowed
    simp [entries, waits]
    exact unfollowed
  · have started : s.station.state ≠ .startup := by rw [done]; nofun
    have still : (timersCell s).station.state = .done := by
      rcases timersCell_state s with same | ⟨playing, -⟩
      · rw [same, done]
      · rw [done] at playing; cases playing
    refine ⟨_, step_cell waits powered started, ?_⟩
    rw [cellClock_done (by simpa using advances) (by simpa using last) (by simpa using still)]
    obtain ⟨entries, -⟩ := cellLine_queue (timersCell s)
    simp [entries, still, waits, SongClock.nextTick_tick]
    exact SongClock.nextTick_phase _
  · have up : (timersCell s).station.state ≠ .startup := by
      rcases timersCell_state s with same | ⟨-, lost⟩
      · rwa [same]
      · rw [lost]; nofun
    have cell := cellLine_followed up (by simpa using follows) (by simpa using noOwn)
    have noOwnAfter : (cellLine (timersCell s)).line.inFlight = none := by
      rw [cell]
      split
      · simpa using noOwn
      · rw [abortFrame_eq]
        rfl
    have line := cellClock_line noOwnAfter
    refine ⟨_, step_cell waits powered started, fun early => ?_, fun late => ?_⟩
    · rw [cellClock_pendingInsertion, line, cell, if_pos (by simpa using early)]
      simp
    · rw [cellClock_pendingInsertion, line, cell, if_neg (by simpa using Nat.not_lt.mpr late), abortFrame_eq]
      simp [LineController.released, noOwn]

end Sys2Proof.Proofs

namespace Sys2Proof

/-! ### The check (R138) -/

theorem crcStep_not (r : Byte) (b : Bool) : crcStep r (!b) ≠ crcStep r b := by
  have moved (x : Byte) : x ^^^ 0x1D#8 ≠ x := fun same => by
    have : (0x1D#8 : Byte) = 0 := by simpa using congrArg (x ^^^ ·) same
    exact absurd this (by decide)
  unfold crcStep
  cases r.msb <;> cases b <;> simp [moved, (moved _).symm]

theorem crc8_append (xs ys : List Bool) : crc8 (xs ++ ys) = ys.foldl crcStep (crc8 xs) := List.foldl_append

/-- One bit of a run inverted (R138). -/
theorem crc8_modify_not (bits : List Bool) (i : Nat) (inside : i < bits.length) : crc8 (bits.modify i not) ≠ crc8 bits := by
  have split : bits = bits.take i ++ bits[i] :: bits.drop (i + 1) := by simp
  have inverted : bits.modify i not = bits.take i ++ (!bits[i]) :: bits.drop (i + 1) := by
    rw [List.modify_eq_take_cons_drop inside]
  rw [inverted, congrArg crc8 split]
  simp only [crc8_append, List.foldl_cons]
  exact fun same => crcStep_not _ _ (Machine.crcRun_injective _ _ _ same)

theorem bitsOf_flip (h : Byte) (i : Fin 8) : bitsOf (h ^^^ (1#8 <<< i.val)) = (bitsOf h).modify (7 - i.val) not := by
  have bit : ∀ i j : Fin 8, (1#8 <<< i.val).getMsbD j = decide (7 - i.val = j.val) := by decide
  refine List.ext_getElem (by simp [bitsOf]) fun j inside _ => ?_
  have small : j < 8 := by simpa [bitsOf] using inside
  simp only [bitsOf, List.getElem_map, List.getElem_range, List.getElem_modify, BitVec.getMsbD_xor, bit i ⟨j, small⟩]
  by_cases same : 7 - i.val = j <;> simp [same]

/-- One header bit inverted under the check of a frame (R138, R139). -/
theorem crc8_header_flip (h : Byte) (length : BitVec 4) (payload : List Byte) (i : Fin 8) :
    crc8 (checkedBits (h ^^^ (1#8 <<< i.val)) length payload) ≠ crc8 (checkedBits h length payload) := by
  have inside : 7 - i.val < (bitsOf h).length := by
    have : (bitsOf h).length = 8 := by simp [bitsOf]
    omega
  rw [checkedBits, checkedBits, List.append_assoc, List.append_assoc, crc8_append, crc8_append, bitsOf_flip]
  exact fun same => crc8_modify_not _ _ inside (Machine.crcRun_injective _ _ _ same)

/-- Test 1 of R139. -/
theorem readFrame_of_crc {w : WireFrame} (wrong : crc8 (checkedBits w.header w.length w.payload) ≠ w.crc) :
    readFrame w = .error .crc := if_pos wrong

/-! ### Fields and bytes (R150) -/

theorem be16_join (x : BitVec 16) : (x.extractLsb' 8 8 ++ x.extractLsb' 0 8 : BitVec 16) = x := by
  refine BitVec.eq_of_toNat_eq ?_
  have := x.isLt
  simp only [Machine.toNat_append, BitVec.extractLsb'_toNat, Nat.shiftRight_eq_div_pow]
  omega

theorem be24_join (x : BitVec 24) : (x.extractLsb' 16 8 ++ x.extractLsb' 8 8 ++ x.extractLsb' 0 8 : BitVec 24) = x := by
  refine BitVec.eq_of_toNat_eq ?_
  have := x.isLt
  simp only [Machine.toNat_append, BitVec.extractLsb'_toNat, Nat.shiftRight_eq_div_pow]
  omega

theorem be32_join (x : BitVec 32) :
    (x.extractLsb' 24 8 ++ x.extractLsb' 16 8 ++ x.extractLsb' 8 8 ++ x.extractLsb' 0 8 : BitVec 32) = x := by
  refine BitVec.eq_of_toNat_eq ?_
  have := x.isLt
  simp only [Machine.toNat_append, BitVec.extractLsb'_toNat, Nat.shiftRight_eq_div_pow]
  omega

theorem be48_join (x : BitVec 48) : (x.extractLsb' 40 8 ++ x.extractLsb' 32 8 ++ x.extractLsb' 24 8 ++ x.extractLsb' 16 8 ++
    x.extractLsb' 8 8 ++ x.extractLsb' 0 8 : BitVec 48) = x := by
  refine BitVec.eq_of_toNat_eq ?_
  have := x.isLt
  simp only [Machine.toNat_append, BitVec.extractLsb'_toNat, Nat.shiftRight_eq_div_pow]
  omega

theorem extractLsb'_append_high {n m : Nat} (x : BitVec n) (y : BitVec m) : (x ++ y).extractLsb' m n = x := by
  refine BitVec.eq_of_toNat_eq ?_
  rw [BitVec.extractLsb'_toNat, Nat.shiftRight_eq_div_pow, Machine.toNat_append, Nat.mul_add_div (Nat.two_pow_pos m),
    Nat.div_eq_of_lt y.isLt, Nat.add_zero, Nat.mod_eq_of_lt x.isLt]

theorem extractLsb'_append_low {n m : Nat} (x : BitVec n) (y : BitVec m) : (x ++ y).extractLsb' 0 m = y := by
  refine BitVec.eq_of_toNat_eq ?_
  rw [BitVec.extractLsb'_toNat, Nat.shiftRight_zero, Machine.toNat_append, Nat.mul_add_mod, Nat.mod_eq_of_lt y.isLt]

theorem colourOfBytes_colourBytes (c : Quad (BitVec 12)) : ∃ a b d e f g, colourBytes c = [a, b, d, e, f, g] ∧
    colourOfBytes a b d e f g = c := by
  refine ⟨_, _, _, _, _, _, rfl, ?_⟩
  simp only [colourOfBytes]
  rw [be48_join]
  obtain ⟨red, green, blue, white⟩ := c
  have := red.isLt
  have := green.isLt
  have := blue.isLt
  have := white.isLt
  refine congr (congr (congr (congrArg Quad.mk ?_) ?_) ?_) ?_ <;> refine BitVec.eq_of_toNat_eq ?_ <;>
    simp only [Machine.toNat_append, BitVec.extractLsb'_toNat, Nat.shiftRight_eq_div_pow] <;> omega

theorem judgeFlags_fields (kind : BitVec 2) (result : BitVec 3) (closing lapse orphan : Bool) :
    let b := judgeFlags kind result closing lapse orphan
    b.extractLsb' 6 2 = kind ∧ b.extractLsb' 3 3 = result ∧ b.getLsbD 2 = closing ∧ b.getLsbD 1 = lapse ∧
      b.getLsbD 0 = orphan := by
  revert kind result closing lapse orphan
  decide

end Sys2Proof

namespace Sys2Proof.Proofs

open Sys2Proof.Machine

/-- Settles O56. -/
theorem oneBitErrorFound : Obligations.OneBitErrorFound := by
  refine ⟨crc8_modify_not, ?_⟩
  rintro f _ ⟨i, rfl⟩
  refine readFrame_of_crc ?_
  simp only [Frame.wire, wireOf]
  exact crc8_header_flip _ _ _ i

end Sys2Proof.Proofs

namespace Sys2Proof

/-! ### A payload read back (R149 to R168) -/

theorem gradeOfCode_gradeCode (g : Grade) : gradeOfCode (gradeCode g) = some g := by cases g <;> rfl

theorem holdOfCode_holdCode (r : HoldResult) : holdOfCode (holdCode r) = some r := by cases r <;> rfl

theorem headKindOf_headKindCode (k : HeadKind) : headKindOf (headKindCode k).toNat = k := by cases k <;> rfl

theorem headKindCode_le (k : HeadKind) : (headKindCode k).toNat ≤ 1 := by cases k <;> decide

/-- The flags and offset of a TAP or HEAD payload (R153). -/
theorem readHead_report (r : HeadReport) (closing orphan : Bool) :
    readHead r.sender r.kind r.due (judgeFlags (headKindCode r.kind) (gradeCode r.grade) closing r.lapse orphan)
      (r.offset.extractLsb' 8 8) (r.offset.extractLsb' 0 8) = .ok r := by
  obtain ⟨-, result, -, lapse, -⟩ := judgeFlags_fields (headKindCode r.kind) (gradeCode r.grade) closing r.lapse orphan
  simp only [readHead, result, gradeOfCode_gradeCode, lapse, be16_join]

theorem readJudge_open (r : HeadReport) (orphan : Bool) : readJudge r.sender (r.bytes false orphan) =
    .ok (if orphan then .orphan r else .member r) := by
  obtain ⟨kind, -, closing, -, orphaned⟩ := judgeFlags_fields (headKindCode r.kind) (gradeCode r.grade) false r.lapse orphan
  simp only [readJudge, HeadReport.bytes, be24, be16, List.cons_append, List.nil_append, kind, closing, headKindCode_le, if_true,
    headKindOf_headKindCode, be24_join, readHead_report, headFrame, orphaned]
  cases orphan <;> rfl

theorem readJudge_closing (r : HeadReport) (c : Carried) : readJudge r.sender (r.bytes true false ++ c.bytes) =
    .ok (.closure (.head r c)) := by
  obtain ⟨kind, -, closing, -, orphaned⟩ := judgeFlags_fields (headKindCode r.kind) (gradeCode r.grade) true r.lapse false
  simp only [readJudge, HeadReport.bytes, Carried.bytes, be24, be16, be32, List.cons_append, List.nil_append, kind, closing,
    headKindCode_le, if_true, headKindOf_headKindCode, be24_join, readHead_report, headFrame, orphaned, be32_join, be16_join]
  rfl

theorem readJudge_forced (sender : BitVec 5) (due : BitVec 24) (c : Carried) :
    readJudge sender (be24 due ++ [judgeFlags 3 (gradeCode .miss) true false false] ++ c.bytes) =
      .ok (.closure (.forced sender due c)) := by
  obtain ⟨kind, result, closing, lapse, orphaned⟩ := judgeFlags_fields 3 (gradeCode .miss) true false false
  simp only [readJudge, Carried.bytes, be24, be16, be32, List.cons_append, List.nil_append, kind, result, closing, lapse, orphaned,
    gradeOfCode_gradeCode, be24_join, be32_join, be16_join]
  rfl

theorem readJudge_tail (f : TailFrame) :
    readJudge f.sender (be24 f.due ++ [judgeFlags 2 (holdCode f.result) true false false] ++ f.carried.bytes) =
      .ok (.tail f) := by
  obtain ⟨kind, result, closing, lapse, orphaned⟩ := judgeFlags_fields 2 (holdCode f.result) true false false
  simp only [readJudge, Carried.bytes, be24, be16, be32, List.cons_append, List.nil_append, kind, result, closing, lapse, orphaned,
    holdOfCode_holdCode, be24_join, be32_join, be16_join]
  rfl

theorem pageOf_val (page : Fin 4) : pageOf (BitVec.ofNat 8 page.val) = some page := by fin_cases page <;> rfl

theorem layerOf_code (clear : Bool) (layer : LampLayer) :
    layerOf (BitVec.ofBool clear ++ layerCode layer : BitVec 8) = some layer ∧
      (BitVec.ofBool clear ++ layerCode layer : BitVec 8).msb = clear := by
  cases clear <;> cases layer <;> decide

/-! What `readPayload` makes of the bytes of each layout (R149). -/

theorem readPayload_mark (address : BitVec 5) (a b c : Byte) :
    readPayload 0 address [a, b, c] = .ok (.mark ⟨address, a ++ b ++ c⟩) := rfl

theorem readPayload_start (address : BitVec 5) (a0 a1 a2 b0 b1 b2 v0 v1 e t n w g i fl : Byte) :
    readPayload 1 address [a0, a1, a2, b0, b1, b2, v0, v1, e, t, n, w, g, i, fl] =
      .ok (.start ⟨a0 ++ a1 ++ a2, b0 ++ b1 ++ b2, v0 ++ v1, e, t, n, w, g, i, fl⟩) := rfl

theorem readPayload_note (address : BitVec 5) (t d0 d1 d2 kc : Byte) (body : List Byte) :
    readPayload 3 address (t :: d0 :: d1 :: d2 :: kc :: body) =
      let f : NoteFrame := ⟨t, d0 ++ d1 ++ d2, kc.extractLsb' 4 4, kc.extractLsb' 0 4, body⟩
      if f.lengthOk then .ok (.note f) else .error .length := rfl

theorem readPayload_lamp (address : BitVec 5) (t0 t1 t2 t3 l a b c d e f : Byte) :
    readPayload 4 address [t0, t1, t2, t3, l, a, b, c, d, e, f] = match layerOf l with
      | some layer => .ok (.lamp ⟨t0 ++ t1 ++ t2 ++ t3, layer, colourOfBytes a b c d e f⟩ l.msb)
      | none => .error .contents := rfl

theorem readPayload_setup (address : BitVec 5) (t fld v0 v1 : Byte) :
    readPayload 5 address [t, 0#8, fld, v0, v1] = .ok (.write ⟨t, fld, v0 ++ v1⟩) := rfl

theorem readNote (f : NoteFrame) (fits : f.lengthOk = true) :
    readPayload 3 consoleAddress (Frame.note f).payload = .ok (.note f) := by
  refine (readPayload_note consoleAddress f.target _ _ _ (f.kind ++ f.count) f.body).trans ?_
  simp only [be24_join, extractLsb'_append_high f.kind f.count, extractLsb'_append_low f.kind f.count]
  exact if_pos fits

theorem readLamp (f : LampFrame) (clear : Bool) :
    readPayload 4 consoleAddress (Frame.lamp f clear).payload = .ok (.lamp f clear) := by
  obtain ⟨a, b, c, d, e, g, bytes, colour⟩ := colourOfBytes_colourBytes f.colour
  obtain ⟨layer, latch⟩ := layerOf_code clear f.layer
  rw [Frame.payload, bytes]
  refine (readPayload_lamp consoleAddress _ _ _ _ (BitVec.ofBool clear ++ layerCode f.layer) a b c d e g).trans ?_
  simp only [layer, latch, be32_join, colour]

theorem readStatus_page (f : StatusFrame) (fits : f.fields.length = statusFieldBytes f.page) :
    readStatus f.sender (BitVec.ofNat 8 f.page.val :: f.fields) = .ok (.status f) := by
  simp only [readStatus, pageOf_val, fits, if_true]

/-- The payload of a well-formed frame, read by its class, gives the frame (R149). -/
theorem readPayload_payload (f : Frame) (formed : f.wellFormed = true) :
    readPayload f.cls.toNat f.address f.payload = .ok f := by
  cases f with
  | mark f => exact (readPayload_mark f.sender _ _ _).trans (by rw [be24_join])
  | start f => exact (readPayload_start consoleAddress _ _ _ _ _ _ _ _ _ _ _ _ _ _ _).trans (by rw [be24_join, be24_join, be16_join])
  | stop => rfl
  | note f => exact readNote f formed
  | member r => exact readJudge_open r false
  | orphan r => exact readJudge_open r true
  | closure c =>
    cases c with
    | head r c => exact readJudge_closing r c
    | forced sender due c => exact readJudge_forced sender due c
  | tail f => exact readJudge_tail f
  | lamp f clear => exact readLamp f clear
  | write f => exact (readPayload_setup consoleAddress f.target f.field _ _).trans (by rw [be16_join])
  | store t => rfl
  | restart t => rfl
  | query f => rfl
  | status f =>
    simp only [Frame.wellFormed, Bool.and_eq_true, beq_iff_eq] at formed
    exact readStatus_page f formed.2

/-- A well-formed payload fits the length field (R132). -/
theorem payload_length (f : Frame) (formed : f.wellFormed = true) : f.payload.length < 16 := by
  cases f with
  | note f =>
    have body : f.body.length ≤ 5 := by
      simp only [Frame.wellFormed, NoteFrame.lengthOk] at formed
      split at formed
      · rename_i layout
        simp only [Bool.and_eq_true, decide_eq_true_eq] at layout
        have := beq_iff_eq.mp formed
        omega
      · simpa using formed
    simp [Frame.payload, be24]
    omega
  | status f =>
    simp only [Frame.wellFormed, Bool.and_eq_true, beq_iff_eq] at formed
    have bytes : statusFieldBytes f.page ≤ 14 := by
      generalize f.page = page
      fin_cases page <;> decide
    simp [Frame.payload, formed.2]
    omega
  | closure c => cases c <;> simp [Frame.payload, HeadReport.bytes, Carried.bytes, be32, be24, be16]
  | _ => simp [Frame.payload, HeadReport.bytes, Carried.bytes, be32, be24, be16, colourBytes]

/-- A class of the console bears its address (R148). -/
theorem console_address (f : Frame) : (!consoleClass f.cls.toNat || f.address == consoleAddress) = true := by
  cases f <;> rfl

end Sys2Proof

namespace Sys2Proof.Proofs

open Sys2Proof.Machine

/-- Settles O55. -/
theorem framesReadBack : Obligations.FramesReadBack := by
  intro f formed
  have cls : f.wire.header.extractLsb' 5 3 = f.cls := extractLsb'_append_high f.cls f.address
  have address : f.wire.header.extractLsb' 0 5 = f.address := extractLsb'_append_low f.cls f.address
  have length : f.wire.payload.length = f.wire.length.toNat :=
    (Nat.mod_eq_of_lt (payload_length f formed)).symm
  have read : readPayload f.cls.toNat f.address f.wire.payload = .ok f := readPayload_payload f formed
  have check : crc8 (checkedBits f.wire.header f.wire.length f.wire.payload) = f.wire.crc := by
    simp only [Frame.wire, wireOf]
  simp only [readFrame, check, length, ne_eq, not_true, if_false, cls, address, read, formed, console_address, Bool.and_self, if_true]

end Sys2Proof.Proofs
